-- ==== Sys2Proof/Syntax.lean ====
section
/-! DEFINITION. The command set as syntax: one constructor per row of spec/opcode_table.json (30_encoding.md R102). -/

namespace Sys2Proof

/-- A command word's meaning-bearing content (30_encoding.md R100 to R102). Operands other than ANGLE.I's index are registers
and RAMs (R101). -/
inductive Instr where
  /-- NOP, 44_control.md R210. -/
  | nop
  /-- CORR.X: cross-correlation, 40_correlation.md R121. -/
  | corrX
  /-- CORR.C: convolution, 40_correlation.md R121. -/
  | corrC
  /-- PEAK, 41_peak.md R141. -/
  | peak
  /-- ANGLE: index from the peak, 42_angle.md R161. -/
  | angle
  /-- ANGLE.I: the index is IMM16, zero-extended (30_encoding.md R101). -/
  | angleI (imm : Nat)
  /-- RUN, 44_control.md R212. -/
  | run
  /-- CLRBUF, 44_control.md R213. -/
  | clrbuf
  /-- ACK, 44_control.md R214. -/
  | ack
  /-- FLUSH, 44_control.md R215. -/
  | flush
  /-- SRESET, 44_control.md R219. -/
  | sreset
  deriving DecidableEq, Repr

end Sys2Proof
end

