-- ==== Sys2Proof/Word.lean ====
section
/-! DEFINITION. The word and byte types: every register value is 32 bits wide unless a width is stated (00_scope.md R11). -/

namespace Sys2Proof

/-- A register value, a command word, a result cell or a binary32 pattern (00_scope.md R11, R13). -/
abbrev Word := BitVec 32

/-- A byte of the stream or a sample cell (00_scope.md R12: int8). -/
abbrev Byte := BitVec 8

/-- A byte offset in the 32 KiB bus window: the window decodes offset bits [14:0] (20_memory.md R72). -/
abbrev Offset := BitVec 15

/-- A result index as the registers hold it, bits [10:0] (10_state.md R35 to R37). -/
abbrev Index := BitVec 11

end Sys2Proof
end

