-- ==== Sys2Proof/Decode.lean ====
section
/-! DEFINITION. Decoding a command word, total and strict (30_encoding.md R100 to R104), the encoder written from the same
tables, the opcode table as rows (R102), and the byte layout of a word on a byte-addressed bus (20_memory.md R71). -/

namespace Sys2Proof

/-- Why a word is ILLEGAL (30_encoding.md R103, R104). -/
inductive DecodeReject where
  /-- RSV, bits [15:5], is not 0. -/
  | reservedBits
  /-- OP is one of 0x9..0xF. -/
  | reservedOpcode
  /-- F is 1 where R100 requires 0. -/
  | strayModifier
  /-- IMM16 is not 0 where R100 requires 0. -/
  | strayImmediate
  /-- Not the four bytes of one word (R105: there is no other command length). -/
  | wrongLength
  deriving DecidableEq, Repr

/-- OP, bits [3:0] (30_encoding.md R100). -/
def opField (w : Word) : BitVec 4 := w.extractLsb' 0 4
/-- F, bit [4]. -/
def fField (w : Word) : Bool := w.getLsbD 4
/-- RSV, bits [15:5]. -/
def rsvField (w : Word) : BitVec 11 := w.extractLsb' 5 11
/-- IMM16, bits [31:16]. -/
def immField (w : Word) : BitVec 16 := w.extractLsb' 16 16

/-- The rows of 30_encoding.md R102 that take neither a modifier nor an immediate. -/
def plainRow (op : BitVec 4) : Option Instr :=
  if op = 0x0 then some .nop
  else if op = 0x2 then some .peak
  else if op = 0x4 then some .run
  else if op = 0x5 then some .clrbuf
  else if op = 0x6 then some .ack
  else if op = 0x7 then some .flush
  else if op = 0x8 then some .sreset
  else none

/-- 30_encoding.md R103: every word is one command or illegal, by name. -/
def decode (w : Word) : Except DecodeReject Instr :=
  if rsvField w ≠ 0 then .error .reservedBits
  else if opField w = 0x1 then
    if immField w ≠ 0 then .error .strayImmediate
    else if fField w then .ok .corrC else .ok .corrX
  else if opField w = 0x3 then
    if fField w then .ok (.angleI (immField w).toNat)
    else if immField w ≠ 0 then .error .strayImmediate
    else .ok .angle
  else
    match plainRow (opField w) with
    | none => .error .reservedOpcode
    | some i =>
      if fField w then .error .strayModifier
      else if immField w ≠ 0 then .error .strayImmediate
      else .ok i

/-- The word of 30_encoding.md R100: IMM16, RSV = 0, F, OP. -/
def commandWord (op : BitVec 4) (f : BitVec 1) (imm : BitVec 16) : Word := imm ++ 0#11 ++ f ++ op

/-- The word of an instruction (30_encoding.md R102). -/
def encode : Instr → Word
  | .nop => commandWord 0x0 0 0
  | .corrX => commandWord 0x1 0 0
  | .corrC => commandWord 0x1 1 0
  | .peak => commandWord 0x2 0 0
  | .angle => commandWord 0x3 0 0
  | .angleI imm => commandWord 0x3 1 (BitVec.ofNat 16 imm)
  | .run => commandWord 0x4 0 0
  | .clrbuf => commandWord 0x5 0 0
  | .ack => commandWord 0x6 0 0
  | .flush => commandWord 0x7 0 0
  | .sreset => commandWord 0x8 0 0

/-- The rows of the opcode table as (mask, match) pairs (30_encoding.md R102, spec/opcode_table.json). -/
def opcodeRow : Instr → Word × Word
  | .nop => (0xFFFFFFFF, 0x00000000)
  | .corrX => (0xFFFFFFFF, 0x00000001)
  | .corrC => (0xFFFFFFFF, 0x00000011)
  | .peak => (0xFFFFFFFF, 0x00000002)
  | .angle => (0xFFFFFFFF, 0x00000003)
  | .angleI _ => (0x0000FFFF, 0x00000013)
  | .run => (0xFFFFFFFF, 0x00000004)
  | .clrbuf => (0xFFFFFFFF, 0x00000005)
  | .ack => (0xFFFFFFFF, 0x00000006)
  | .flush => (0xFFFFFFFF, 0x00000007)
  | .sreset => (0xFFFFFFFF, 0x00000008)

/-- A word matches a row under the row's mask (30_encoding.md R102). -/
def matchesRow (w : Word) (i : Instr) : Bool := w &&& (opcodeRow i).1 == (opcodeRow i).2

/-- Byte `k` of a word, bits [8k+7:8k]: little-endian (20_memory.md R71). -/
def byteLane (w : Word) (k : Nat) : Byte := w.extractLsb' (8 * k) 8

/-- The bytes of a word in increasing address order (20_memory.md R71). -/
def wordBytes (w : Word) : List Byte := [byteLane w 0, byteLane w 1, byteLane w 2, byteLane w 3]

/-- Decoding the bytes of one word, lowest address first; any other number of bytes is no command (30_encoding.md R105). -/
def decodeBytes : List Byte → Except DecodeReject Instr
  | [b0, b1, b2, b3] => decode (b3 ++ b2 ++ b1 ++ b0)
  | _ => .error .wrongLength

/-- The instruction the decoder reads from the word whose low `nbits` bits are those of `w`, the others 0. -/
def decodeTableWord (nbits w : Nat) : Option Instr :=
  (decodeBytes (wordBytes (BitVec.ofNat 32 (w % 2 ^ nbits)))).toOption

end Sys2Proof
end

