-- ==== Sys2Proof/Machine/Binary32.lean ====
section
/-! DEFINITION. The binary32 format on 32-bit patterns: fields, special values, order, exact value, and rounding to nearest,
ties to even (00_scope.md R13; 42_angle.md R165, R166). PRESUMED: the spec takes IEEE 754-2008 from general knowledge
(notes/assumptions/9.md). -/

namespace Sys2Proof.F32

/-- +1.0 (42_angle.md R166). -/
def one : Word := 0x3F800000
/-- −1.0 (42_angle.md R166). -/
def negOne : Word := 0xBF800000
/-- +90.0 (42_angle.md R170 P1). -/
def ninety : Word := 0x42B40000
/-- −90.0 (42_angle.md R170 P1). -/
def negNinety : Word := 0xC2B40000

/-- The sign `x[31]`; `true` is minus (R13). -/
def sign (x : Word) : Bool := x.getLsbD 31
/-- The biased exponent `x[30:23]` (R13). -/
def expo (x : Word) : Nat := (x.extractLsb' 23 8).toNat
/-- The fraction `x[22:0]` (R13). -/
def frac (x : Word) : Nat := (x.extractLsb' 0 23).toNat
/-- The pattern without its sign, `x[30:0]`: patterns of one sign are ordered as their magnitudes. -/
def mag (x : Word) : Nat := (x.extractLsb' 0 31).toNat

def isNan (x : Word) : Bool := expo x == 255 && frac x != 0
def isInf (x : Word) : Bool := expo x == 255 && frac x == 0
def isFinite (x : Word) : Bool := expo x != 255
def isZero (x : Word) : Bool := mag x == 0

/-- `f32_neg(x)` flips bit 31 (R13). -/
def neg (x : Word) : Word := x ^^^ 0x80000000

/-- A sign bit and a magnitude pattern put together. -/
def withSign (s : Bool) (m : Nat) : Word := (if s then 0x80000000 else 0) ||| BitVec.ofNat 32 m

/-- The magnitude pattern of infinity. -/
def infMag : Nat := 0x7F800000

/-- The significand as an integer: hidden bit for a normal number, none for a zero or subnormal. -/
def mant (x : Word) : Nat := if expo x = 0 then frac x else frac x + 2 ^ 23

/-- The exponent of the significand's unit: a finite `x` is `± mant x · 2 ^ unitExp x`. -/
def unitExp (x : Word) : Int := (max (expo x) 1 : Nat) - 150

/-- The exact value of a finite pattern (of no meaning on infinities and NaN). -/
def toRat (x : Word) : ℚ := (if sign x then -1 else 1) * (mant x : ℚ) * (2 : ℚ) ^ unitExp x

/-- The order of the finite values and infinities; both zeros have key 0. -/
def key (x : Word) : Int := if sign x then -(mag x : Int) else (mag x : Int)

/-- IEEE ordered comparison: false when an operand is NaN (42_angle.md R166). -/
def lt (x y : Word) : Bool := !isNan x && !isNan y && decide (key x < key y)
/-- IEEE ordered comparison: false when an operand is NaN. -/
def le (x y : Word) : Bool := !isNan x && !isNan y && decide (key x ≤ key y)

/-- `−1.0 ≤ x ≤ +1.0`, the range over which 42_angle.md R170 states its properties. -/
abbrev UnitRange (x : Word) : Prop := le negOne x = true ∧ le x one = true

/-- `n / d` measured in units of `2 ^ k`, as numerator and denominator. -/
def inUnits (n d : Nat) (k : Int) : Nat × Nat := (n * 2 ^ (-k).toNat, d * 2 ^ k.toNat)

/-- The exponent of the unit in which `n / d` (n, d > 0) is rounded: 24 significant bits, but never finer than `2 ^ -149`
(gradual underflow, R165). -/
def roundUnit (n d : Nat) : Int :=
  let k : Int := (Nat.log2 n : Int) - (Nat.log2 d : Int) - 23
  let u := inUnits n d k
  max (if u.1 / u.2 < 2 ^ 23 then k - 1 else k) (-149)

/-- `n / d` to the nearest integer, ties to even. -/
def roundQuot (n d : Nat) : Nat :=
  let q := n / d
  let r := n % d
  if d < 2 * r ∨ (2 * r = d ∧ q % 2 = 1) then q + 1 else q

/-- The magnitude pattern nearest `n / d`, ties to even, overflowing to infinity (R13, R165). -/
def roundMag (n d : Nat) : Nat :=
  if n = 0 then 0
  else
    let k := roundUnit n d
    let u := inUnits n d k
    min ((k + 149).toNat * 2 ^ 23 + roundQuot u.1 u.2) infMag

/-- The magnitude pattern nearest `n / d · 2 ^ e`. -/
def roundScaled (n d : Nat) (e : Int) : Nat := roundMag (n * 2 ^ e.toNat) (d * 2 ^ (-e).toNat)

/-- `i2f(k)`: an integer to binary32 (R13); `i2f(0)` is +0.0 (R165). -/
def ofInt (k : Int) : Word := withSign (decide (k < 0)) (roundMag k.natAbs 1)

end Sys2Proof.F32
end

