-- ==== Sys2Proof/Machine/AsinWitness.lean ====
section
/-! DEFINITION. A function with the properties P1 to P4 of 42_angle.md R170 exists: needed only so that `Config.asinDeg` can be
declared with those properties and no value (notes/assumptions/7.md). Nothing of the model computes with it. -/

namespace Sys2Proof.Config

/-- The model's own witness that a function with P1 to P4 exists, used only to show the type below inhabited: ±90 at ±1,
a signed zero elsewhere. -/
def asinWitness (x : Word) : Word :=
  if x = F32.one then F32.ninety else if x = F32.negOne then F32.negNinety else x &&& 0x80000000

theorem asinWitness_neg (x : Word) : asinWitness (F32.neg x) = F32.neg (asinWitness x) := by
  by_cases h1 : x = F32.one
  · subst h1; decide
  by_cases h2 : x = F32.negOne
  · subst h2; decide
  have h3 : F32.neg x ≠ F32.one := by
    intro h; apply h2; rw [show x = F32.neg (F32.neg x) by simp [F32.neg], h]; decide
  have h4 : F32.neg x ≠ F32.negOne := by
    intro h; apply h1; rw [show x = F32.neg (F32.neg x) by simp [F32.neg], h]; decide
  simp only [asinWitness, h1, h2, h3, h4, if_false]
  simp only [F32.neg]
  ext i
  simp only [BitVec.getElem_and, BitVec.getElem_xor]
  cases x[i] <;> cases (0x80000000#32)[i] <;> rfl

theorem and_signMask (x : Word) : x &&& 0x80000000 = 0 ∨ x &&& 0x80000000 = 0x80000000 := by
  have h : x &&& 0x80000000 = if x.getLsbD 31 then 0x80000000 else 0 := by
    ext i hi
    by_cases h31 : i = 31
    · subst h31; cases h : x.getLsbD 31 <;> simp_all [BitVec.getLsbD]
      simpa [BitVec.getElem_eq_testBit_toNat] using h
    · have h0 : (0x80000000#32)[i] = false := by interval_cases i <;> simp_all
      cases h : x.getLsbD 31 <;> simp [h0]
  rw [h]; split <;> simp

theorem asinWitness_values (x : Word) :
    (x = F32.one ∧ asinWitness x = F32.ninety) ∨ (x = F32.negOne ∧ asinWitness x = F32.negNinety) ∨
      (x ≠ F32.one ∧ x ≠ F32.negOne ∧ (asinWitness x = 0 ∨ asinWitness x = 0x80000000)) := by
  by_cases h1 : x = F32.one
  · subst h1; exact .inl ⟨rfl, by decide⟩
  by_cases h2 : x = F32.negOne
  · subst h2; exact .inr (.inl ⟨rfl, by decide⟩)
  · refine .inr (.inr ⟨h1, h2, ?_⟩)
    simpa only [asinWitness, h1, h2, if_false] using and_signMask x

theorem sign_eq (x : Word) : F32.sign x = decide (2 ^ 31 ≤ x.toNat) := by
  have := BitVec.msb_eq_decide x
  simpa [F32.sign, BitVec.msb_eq_getLsbD_last] using this

theorem mag_eq (x : Word) : F32.mag x = x.toNat % 2 ^ 31 := by
  simp [F32.mag, BitVec.extractLsb'_toNat]

theorem key_one_eq {x : Word} (h : F32.key x = 0x3F800000) : x = F32.one := by
  have := x.isLt
  rw [F32.key, sign_eq, mag_eq] at h
  apply BitVec.eq_of_toNat_eq
  change x.toNat = 0x3F800000
  by_cases hs : 2 ^ 31 ≤ x.toNat
  · rw [decide_eq_true hs, if_pos rfl] at h; omega
  · rw [decide_eq_false hs, if_neg (by simp)] at h; omega

theorem key_negOne_eq {x : Word} (h : F32.key x = -0x3F800000) : x = F32.negOne := by
  have := x.isLt
  rw [F32.key, sign_eq, mag_eq] at h
  apply BitVec.eq_of_toNat_eq
  change x.toNat = 0xBF800000
  by_cases hs : 2 ^ 31 ≤ x.toNat
  · rw [decide_eq_true hs, if_pos rfl] at h; omega
  · rw [decide_eq_false hs, if_neg (by simp)] at h; omega

theorem asinWitness_mono (x y : Word) (hx : F32.UnitRange x) (hy : F32.UnitRange y) (hxy : F32.le x y = true) :
    F32.le (asinWitness x) (asinWitness y) = true := by
  have key_le {u v : Word} (h : F32.le u v = true) : F32.key u ≤ F32.key v := by
    simp only [F32.le, Bool.and_eq_true, decide_eq_true_eq] at h; exact h.2
  rcases asinWitness_values x with ⟨rfl, ex⟩ | ⟨rfl, ex⟩ | ⟨_, _, ex⟩ <;>
    rcases asinWitness_values y with ⟨rfl, ey⟩ | ⟨rfl, ey⟩ | ⟨hy1, hy2, ey⟩
  · rw [ex]; decide
  · exact absurd hxy (by decide)
  · exact absurd (key_one_eq (le_antisymm (key_le hy.2) (key_le hxy))) hy1
  · rw [ex, ey]; decide
  · rw [ex]; decide
  · rw [ex]; rcases ey with e | e <;> rw [e] <;> decide
  · rw [ey]; rcases ex with e | e <;> rw [e] <;> decide
  · exact absurd (key_negOne_eq (le_antisymm (key_le hxy) (key_le hx.1))) ‹_›
  · rcases ex with e | e <;> rcases ey with f | f <;> rw [e, f] <;> decide

theorem asinWitness_close (x : Word) :
    |((F32.toRat (asinWitness x) : ℚ) : ℝ) - Real.arcsin (F32.toRat x : ℚ) * 180 / Real.pi| ≤ ((180 : ℚ) : ℝ) := by
  have hv : |((F32.toRat (asinWitness x) : ℚ) : ℝ)| ≤ 90 := by
    have h0 : F32.toRat 0 = 0 := by norm_num [F32.toRat, show F32.mant 0 = 0 by decide]
    have h1 : F32.toRat 0x80000000 = 0 := by norm_num [F32.toRat, show F32.mant 0x80000000 = 0 by decide]
    have h2 : F32.toRat F32.ninety = 90 := by
      norm_num [F32.toRat, show F32.mant F32.ninety = 11796480 by decide, show F32.unitExp F32.ninety = -17 by decide,
        show F32.sign F32.ninety = false by decide]
    have h3 : F32.toRat F32.negNinety = -90 := by
      norm_num [F32.toRat, show F32.mant F32.negNinety = 11796480 by decide,
        show F32.unitExp F32.negNinety = -17 by decide, show F32.sign F32.negNinety = true by decide]
    rcases asinWitness_values x with ⟨_, e⟩ | ⟨_, e⟩ | ⟨_, _, e | e⟩ <;> rw [e]
    · rw [h2]; norm_num
    · rw [h3]; norm_num
    · rw [h0]; norm_num
    · rw [h1]; norm_num
  have ha : |Real.arcsin (F32.toRat x : ℚ) * 180 / Real.pi| ≤ 90 := by
    have hpi := Real.pi_pos
    have h1 := Real.arcsin_le_pi_div_two (F32.toRat x : ℚ)
    have h2 := Real.neg_pi_div_two_le_arcsin (F32.toRat x : ℚ)
    rw [abs_le]
    constructor
    · rw [le_div_iff₀ hpi]; linarith
    · rw [div_le_iff₀ hpi]; linarith
  rw [abs_le] at *
  push_cast
  constructor <;> linarith [hv.1, hv.2, ha.1, ha.2]

end Sys2Proof.Config
end

