-- ==== Sys2Proof/Config.lean ====
section
/-! DEFINITION. What a build fixes (00_scope.md R9) and the free values the spec leaves open: CYCLE draws (60_exceptions.md R245),
RAM cells never written (10_state.md R47), ASIN_DEG with its properties P1 to P4 (42_angle.md R170), NaN patterns. -/

namespace Sys2Proof.Config

/-- The build parameters of 00_scope.md R9 and the window's base address (20_memory.md R70). They are configuration, not state
(R7); the model carries them as data no step changes, so that a statement over states is about every build
(notes/assumptions/3.md). -/
structure Build where
  nMax : Nat
  nReset : Nat
  fifoDepth : Nat
  macLanes : Nat
  base : Nat
  deriving DecidableEq, Repr

/-- The defaults of 00_scope.md R9. DESIGN CHOICE: BASE has no default in the spec, 0 here (notes/assumptions/3.md). -/
def Build.default : Build :=
  { nMax := 1024, nReset := 250, fifoDepth := 4096, macLanes := 1, base := 0 }

/-- The four RAMs of 10_state.md R41, R42, R44. -/
inductive RamId where
  | a
  | b
  | res
  | lut
  deriving DecidableEq, Repr

/-- The value CYCLE shows at the n-th draw: 60_exceptions.md R245, "every read of CYCLE is a draw" (notes/assumptions/5.md). -/
opaque cycleDraw : Nat → Word

/-- What a RAM cell that nothing has written since the n-th hardware reset holds: 10_state.md R47 leaves it unspecified and
admits a draw (notes/assumptions/4.md). Sample cells take its low 8 bits. -/
opaque unwrittenCell : Nat → RamId → Nat → Word

/-- The payload of the NaN an operation on two patterns gives; IEEE 754 leaves it open and 42_angle.md R172 shows that no
valid configuration reaches one (notes/assumptions/8.md). -/
opaque nanBits : Word → Word → Word

/-- ASIN_DEG and ASIN_TOL of 42_angle.md R170: a total function from binary32 to binary32 of which only P1 to P4 may be used.
The default values only show that the type is inhabited; `Config.asinDeg` below is opaque, so no proof can reach them. -/
structure AsinDeg where
  /-- ASIN_DEG. -/
  fn : Word → Word := asinWitness
  /-- ASIN_TOL, in degrees. -/
  tol : ℚ := 180
  tol_nonneg : 0 ≤ tol := by norm_num
  /-- P1. -/
  at_one : fn F32.one = F32.ninety := by decide
  /-- P1. -/
  at_negOne : fn F32.negOne = F32.negNinety := by decide
  /-- P2. -/
  odd : ∀ x, F32.UnitRange x → fn (F32.neg x) = F32.neg (fn x) := by exact fun x _ => asinWitness_neg x
  /-- P2, "in particular". -/
  at_zero : fn 0 = 0 := by decide
  /-- P3. -/
  mono : ∀ x y, F32.UnitRange x → F32.UnitRange y → F32.le x y = true → F32.le (fn x) (fn y) = true := by
    exact asinWitness_mono
  /-- P4. -/
  close : ∀ x, F32.UnitRange x →
    |((F32.toRat (fn x) : ℚ) : ℝ) - Real.arcsin (F32.toRat x : ℚ) * 180 / Real.pi| ≤ (tol : ℝ) := by
    exact fun x _ => asinWitness_close x
  deriving Inhabited

/-- The build's ASIN_DEG and ASIN_TOL: nothing is known of them but 42_angle.md R170 P1 to P4 (notes/assumptions/7.md). -/
opaque asinDeg : AsinDeg

end Sys2Proof.Config
end

