-- ==== Sys2Proof/Machine/Arith32.lean ====
section
/-! DEFINITION. `f32_mul` and `f32_div` (00_scope.md R13; 42_angle.md R165): one rounding to nearest, ties to even, gradual
underflow, overflow to infinity, the IEEE 754-2008 results on special operands (notes/assumptions/8.md, 9.md). -/

namespace Sys2Proof.F32

/-- The NaN of an invalid operation or a NaN operand: quiet, its sign and payload free (notes/assumptions/8.md). -/
def nanOf (x y : Word) : Word := Config.nanBits x y ||| 0x7FC00000

/-- `f32_mul` (R13). -/
def mul (x y : Word) : Word :=
  let s := sign x != sign y
  if isNan x || isNan y then nanOf x y
  else if isInf x || isInf y then
    if isZero x || isZero y then nanOf x y else withSign s infMag
  else withSign s (roundScaled (mant x * mant y) 1 (unitExp x + unitExp y))

/-- `f32_div` (R13). -/
def div (x y : Word) : Word :=
  let s := sign x != sign y
  if isNan x || isNan y then nanOf x y
  else if isInf x then
    if isInf y then nanOf x y else withSign s infMag
  else if isInf y then withSign s 0
  else if isZero y then
    if isZero x then nanOf x y else withSign s infMag
  else withSign s (roundScaled (mant x) (mant y) (unitExp x - unitExp y))

end Sys2Proof.F32
end

