-- ==== Sys2Proof/Machine/State.lean ====
section
/-! DEFINITION. The state of the block (10_state.md R20 to R49), the pins and the outside world as plain data, the ways a step
can stop, and the state after reset (70_reset_and_hazards.md R260, R261). -/

namespace Sys2Proof.Machine

/-- STATUS.STAGE (10_state.md R25); codes 5, 6, 7 are never read, so the type has five values (I27). -/
inductive Stage where
  | idle
  | load
  | corr
  | peak
  | angle
  deriving DecidableEq, Repr

/-- CTRL.MODE and the F bit of CORR: 0 CROSS_CORRELATION, 1 CONVOLUTION (10_state.md R24). -/
inductive Mode where
  | cross
  | conv
  deriving DecidableEq, Repr

/-- `eng.chain` (10_state.md R45). -/
inductive Chain where
  | single
  | run
  deriving DecidableEq, Repr

/-- `eng.src` (10_state.md R45). -/
inductive IdxSrc where
  | peak
  | imm
  deriving DecidableEq, Repr

/-- The four agents of 00_scope.md R6. -/
inductive Agent where
  | host
  | stream
  | engine
  | deframer
  deriving DecidableEq, Repr

/-- What the host does in one turn (20_memory.md R74, R90; 30_encoding.md R107, R108). -/
inductive HostAction where
  /-- `MemRead(o, 4)`. -/
  | read (o : Offset)
  /-- `MemWrite(o, 4, v)` with byte strobes `be`. -/
  | write (o : Offset) (v : Word) (be : BitVec 4)
  /-- One round of a loop that reads STATUS and repeats until bit `bit` of the word read is `level` (R108 `wait`, `wait.done`). -/
  | poll (bit : Nat) (level : Bool)
  /-- `rst_n` driven low (R90, 70_reset_and_hazards.md R260). -/
  | assertReset
  /-- `rst_n` driven high. -/
  | releaseReset
  deriving DecidableEq, Repr

/-- The block's answer to the host's last access (20_memory.md R74, R78): OK is `err = false`. -/
inductive Response where
  | none
  | read (err : Bool) (data : Word)
  | write (err : Bool)
  deriving DecidableEq, Repr

/-- Why the machine stops. -/
inductive Fault where
  /-- Raised by the host's step for an access while `rst_n` is asserted: such an access has no move (20_memory.md R90, I19), a
  stuck state. UNSAFE where a chip answered the access (R90: it errs toward proving). -/
  | accessDuringReset
  deriving DecidableEq, Repr

/-- Why an instruction has no meaning. -/
inductive Refusal where
  /-- Raised by a dispatch arm of an instruction that has no meaning yet; no arm of this model does. Safe. -/
  | notModelled (mnemonic : String)
  deriving DecidableEq, Repr

/-- RAM cells by index, indexes strictly rising; a cell that is not listed is one nothing has written since reset, that is, one
whose model bit `written` is clear (10_state.md R47). With `w = 8` this is a list of `Host.Cell`. -/
abbrev Cells (w : Nat) := List (Nat × BitVec w)

/-- What is outside the block, and the model's own counters. -/
structure Env where
  /-- The level of the reset pin (70_reset_and_hazards.md R260). -/
  rstN : Bool
  /-- Which agent moves next, first entry first (00_scope.md R6; notes/assumptions/1.md). -/
  schedule : List Agent
  /-- The host's accesses still to come, in order (00_scope.md R7). -/
  hostProgram : List HostAction
  /-- The bytes the stream source has still to offer (00_scope.md R6, R7). -/
  streamSource : List Byte
  /-- The response of the host's last access. -/
  resp : Response
  /-- How many CYCLE draws have been taken (60_exceptions.md R245). -/
  draws : Nat
  /-- How many hardware resets have happened (10_state.md R47). -/
  resets : Nat
  deriving DecidableEq, Repr

/-- The read-write configuration registers (10_state.md R24, R29 to R31); reserved bits have no storage (R21). -/
structure Cfg where
  ctrl : BitVec 5
  irqEn : BitVec 3
  n : Word
  fs : Word
  c : Word
  d : Word
  deriving DecidableEq, Repr

/-- The stored bits of STATUS (10_state.md R25); BUSY, ERR_ANY and IRQ are live functions of the state. -/
structure Status where
  stage : Stage
  done : Bool
  resValid : Bool
  peakValid : Bool
  angleValid : Bool
  sat : Bool
  frameRdy : Bool
  resMode : Mode
  deriving DecidableEq, Repr

/-- The error record: ERR, ERR_CAUSE, ERR_INFO (10_state.md R27, R28). -/
structure ErrorRecord where
  err : BitVec 10
  cause : BitVec 4
  info : Word
  deriving DecidableEq, Repr

/-- A_COUNT and B_COUNT (10_state.md R32). -/
structure Counts where
  aCount : BitVec 11
  bCount : BitVec 11
  deriving DecidableEq, Repr

/-- The stream FIFO, head first, and the frame counters (10_state.md R34, R46). -/
structure Ingest where
  fifo : List Byte
  frameCount : Word
  resyncCount : Word
  deriving DecidableEq, Repr

/-- The PEAK result registers (10_state.md R35, R36). -/
structure PeakRegs where
  maxVal : Word
  maxIdx : Index
  absVal : Word
  absIdx : Index
  deriving DecidableEq, Repr

/-- The ANGLE result registers (10_state.md R37 to R39). -/
structure AngleRegs where
  idx : Index
  lag : Word
  tdelay : Word
  argRaw : Word
  argClamp : Word
  angle : Word
  deriving DecidableEq, Repr

/-- CYCLE, CORR_T0, CORR_T1 (10_state.md R40). -/
structure Timers where
  cycle : Word
  t0 : Word
  t1 : Word
  deriving DecidableEq, Repr

/-- The engine latches (10_state.md R45). -/
structure Latches where
  chain : Chain
  mode : Mode
  src : IdxSrc
  sel : Bool
  amode : Bool
  imm : Index
  deriving DecidableEq, Repr

/-- The whole state. -/
structure State where
  build : Config.Build
  env : Env
  cfg : Cfg
  status : Status
  error : ErrorRecord
  buf : Counts
  ingest : Ingest
  peak : PeakRegs
  angle : AngleRegs
  time : Timers
  eng : Latches
  ramA : List Host.Cell
  ramB : List Host.Cell
  res : Cells 32
  lut : Cells 32
  deriving DecidableEq, Repr

/-- STATUS with every bit at its reset value (10_state.md R25). -/
def Status.reset : Status :=
  { stage := .idle, done := false, resValid := false, peakValid := false, angleValid := false, sat := false,
    frameRdy := false, resMode := .cross }

/-- The registers and RAMs of a build after hardware reset, in a given outside world (10_state.md R49, 70_reset_and_hazards.md
R260, R261). DESIGN CHOICE: the engine latches, which R45 leaves unspecified and unread (notes/assumptions/6.md). -/
def State.initial (b : Config.Build) (e : Env) : State :=
  { build := b
    env := e
    cfg := { ctrl := 0, irqEn := 0, n := BitVec.ofNat 32 b.nReset, fs := 0x48742400, c := 0x43AB8000, d := 0x3D4CCCCD }
    status := Status.reset
    error := { err := 0, cause := 0, info := 0 }
    buf := { aCount := 0, bCount := 0 }
    ingest := { fifo := [], frameCount := 0, resyncCount := 0 }
    peak := { maxVal := 0, maxIdx := 0, absVal := 0, absIdx := 0 }
    angle := { idx := 0, lag := 0, tdelay := 0, argRaw := 0, argClamp := 0, angle := 0 }
    time := { cycle := 0, t0 := 0, t1 := 0 }
    eng := { chain := .single, mode := .cross, src := .peak, sel := false, amode := false, imm := 0 }
    ramA := []
    ramB := []
    res := []
    lut := [] }

/-- The outside world before anything is placed: `rst_n` released, no accesses, no bytes, no schedule. -/
def Env.quiet : Env :=
  { rstN := true, schedule := [], hostProgram := [], streamSource := [], resp := .none, draws := 0, resets := 0 }

/-- The machine right after reset, for the default build of 00_scope.md R9. -/
def State.reset : State := State.initial Config.Build.default Env.quiet

end Sys2Proof.Machine
end

