-- ==== Sys2Proof/Machine/Flags.lean ====
section
/-! DEFINITION. The status word and its live bits (10_state.md R25; 60_exceptions.md R240), the fields of CTRL and IRQ_EN
(10_state.md R24, R29), and the clamp with its saturation flag (42_angle.md R166). -/

namespace Sys2Proof.Machine

/-- The code of a stage in STATUS[3:1] (10_state.md R25). -/
def Stage.code : Stage → BitVec 3
  | .idle => 0
  | .load => 1
  | .corr => 2
  | .peak => 3
  | .angle => 4

/-- The code of a mode: 0 CROSS_CORRELATION, 1 CONVOLUTION (10_state.md R24). -/
def Mode.code : Mode → BitVec 1
  | .cross => 0
  | .conv => 1

/-- The mode of a code bit. -/
def modeOfBit (b : Bool) : Mode := if b then .conv else .cross

/-- STATUS.BUSY: 1 while STAGE ≠ IDLE (10_state.md R25). -/
def State.busy (s : State) : Bool := s.status.stage != .idle

/-- STATUS.ERR_ANY: ERR ≠ 0, live (10_state.md R25). -/
def State.errAny (s : State) : Bool := s.error.err != 0

/-- IRQ_EN.DONE_IE (10_state.md R29). -/
def State.doneIe (s : State) : Bool := s.cfg.irqEn.getLsbD 0
/-- IRQ_EN.ERR_IE. -/
def State.errIe (s : State) : Bool := s.cfg.irqEn.getLsbD 1
/-- IRQ_EN.FRAME_IE. -/
def State.frameIe (s : State) : Bool := s.cfg.irqEn.getLsbD 2

/-- The interrupt output, a level with no latch (60_exceptions.md R240). -/
def State.irq (s : State) : Bool :=
  (s.status.done && s.doneIe) || (s.errAny && s.errIe) || (s.status.frameRdy && s.frameIe)

/-- The word STATUS reads as (10_state.md R25). -/
def State.statusWord (s : State) : Word :=
  0#19 ++ s.status.resMode.code ++ BitVec.ofBool s.irq ++ BitVec.ofBool s.errAny ++ BitVec.ofBool s.status.frameRdy ++
    BitVec.ofBool s.status.sat ++ BitVec.ofBool s.status.angleValid ++ BitVec.ofBool s.status.peakValid ++
    BitVec.ofBool s.status.resValid ++ BitVec.ofBool s.status.done ++ s.status.stage.code ++ BitVec.ofBool s.busy

/-- CTRL.MODE (10_state.md R24). -/
def State.ctrlMode (s : State) : Mode := modeOfBit (s.cfg.ctrl.getLsbD 0)
/-- CTRL.PEAK_SEL: 0 PEAK_ABS_IDX, 1 PEAK_MAX_IDX. -/
def State.peakSel (s : State) : Bool := s.cfg.ctrl.getLsbD 1
/-- CTRL.ANGLE_MODE: 0 DIRECT, 1 LUT. -/
def State.angleMode (s : State) : Bool := s.cfg.ctrl.getLsbD 2
/-- CTRL.DEFR_EN. -/
def State.defrEn (s : State) : Bool := s.cfg.ctrl.getLsbD 3
/-- CTRL.AUTO_RUN. -/
def State.autoRun (s : State) : Bool := s.cfg.ctrl.getLsbD 4

/-- The clamp to [−1, 1] and the SAT flag (42_angle.md R166). -/
def clampArg (arg : Word) : Word × Bool :=
  if F32.lt F32.one arg then (F32.one, true)
  else if F32.lt arg F32.negOne then (F32.negOne, true)
  else (arg, false)

end Sys2Proof.Machine
end

