-- ==== Sys2Proof/Machine/Ops.lean ====
section
/-! DEFINITION. The named operations over the state: RAM cells (10_state.md R41 to R47), the error record (60_exceptions.md R230,
R234, R237), command issue (44_control.md R211), stage ends (44_control.md R217), resets (70_reset_and_hazards.md R260, R262). -/

namespace Sys2Proof.Machine

/-! RAM cells. -/

/-- The value written to cell `i`, if any has been written since reset. -/
def Ram.find {w : Nat} : Cells w → Nat → Option (BitVec w)
  | [], _ => none
  | (a, v) :: m, i => if i = a then some v else Ram.find m i

/-- Cell `i` takes the value `v`; the list stays sorted. -/
def Ram.set {w : Nat} : Cells w → Nat → BitVec w → Cells w
  | [], i, v => [(i, v)]
  | (a, x) :: m, i, v =>
    if i < a then (i, v) :: (a, x) :: m else if i = a then (i, v) :: m else (a, x) :: Ram.set m i v

/-- Cells `i`, `i + 1`, … take the values of a list, in order. -/
def Ram.setFrom {w : Nat} (m : Cells w) (i : Nat) : List (BitVec w) → Cells w
  | [] => m
  | v :: vs => Ram.setFrom (Ram.set m i v) (i + 1) vs

/-- The one form a RAM of `size` cells has: indexes strictly rising, each below `size`. -/
abbrev Ram.wf {w : Nat} (size : Nat) (m : Cells w) : Prop :=
  m.Pairwise (fun p q => p.1 < q.1) ∧ ∀ p ∈ m, p.1 < size

/-- Cells of sample RAMs A and B: N_MAX (10_state.md R41). -/
def Build.sampleCells (b : Config.Build) : Nat := b.nMax
/-- Cells of RES and LUT: 2·N_MAX−1 (10_state.md R42, R44). -/
def Build.resultCells (b : Config.Build) : Nat := 2 * b.nMax - 1

/-- Every RAM is in its one form. -/
abbrev Memory.wf (s : State) : Prop :=
  Ram.wf (Build.sampleCells s.build) s.ramA ∧ Ram.wf (Build.sampleCells s.build) s.ramB ∧
    Ram.wf (Build.resultCells s.build) s.res ∧ Ram.wf (Build.resultCells s.build) s.lut

/-- `A[j]`; a cell nothing has written holds a free value (10_state.md R47; notes/assumptions/4.md). -/
def State.readA (s : State) (j : Nat) : Byte :=
  (Ram.find s.ramA j).getD ((Config.unwrittenCell s.env.resets .a j).truncate 8)
/-- `B[j]`. -/
def State.readB (s : State) (j : Nat) : Byte :=
  (Ram.find s.ramB j).getD ((Config.unwrittenCell s.env.resets .b j).truncate 8)
/-- `RES[i]`. -/
def State.readRes (s : State) (i : Nat) : Word :=
  (Ram.find s.res i).getD (Config.unwrittenCell s.env.resets .res i)
/-- `LUT[i]`. -/
def State.readLut (s : State) (i : Nat) : Word :=
  (Ram.find s.lut i).getD (Config.unwrittenCell s.env.resets .lut i)

/-! The error record. -/

/-- The error causes (60_exceptions.md R230). -/
inductive Cause where
  | illegalCmd
  | cmdBusy
  | length
  | noResult
  | cfg
  | index
  | bufOvf
  | fifoOvf
  | bus
  | busyAccess
  deriving DecidableEq, Repr

/-- The ERR bit of a cause: its code − 1 (60_exceptions.md R230). -/
def Cause.bit : Cause → Nat
  | .illegalCmd => 0
  | .cmdBusy => 1
  | .length => 2
  | .noResult => 3
  | .cfg => 4
  | .index => 5
  | .bufOvf => 6
  | .fifoOvf => 7
  | .bus => 8
  | .busyAccess => 9

/-- The code ERR_CAUSE captures (60_exceptions.md R230). -/
def Cause.code (c : Cause) : BitVec 4 := BitVec.ofNat 4 (c.bit + 1)

/-- Taking an error: the first error since ERR was all clear is captured, and the cause's sticky bit is set
(60_exceptions.md R234). This is `raise Err`, `raise BusErr` and `record Err` of 00_scope.md R15. -/
def State.recordErr (c : Cause) (info : Word) (s : State) : State :=
  { s with
    error :=
      { err := s.error.err ||| (1 <<< c.bit)
        cause := if s.error.err = 0 then c.code else s.error.cause
        info := if s.error.err = 0 then info else s.error.info } }

/-- The way back from an error: a write of `w` to ERR clears the bits that are 1 in `w[9:0]` (10_state.md R27; 60_exceptions.md
R237). ERR_CAUSE and ERR_INFO stay. -/
def State.clearErr (w : Word) (s : State) : State :=
  { s with error := { s.error with err := s.error.err &&& ~~~(w.truncate 10) } }

/-! Command issue and stage ends. -/

/-- The issue of a command (44_control.md R211): busy, then the command's own checks, then its effect. A rejected command
changes nothing but the error record. The word in the record is the command's own. -/
def State.issue (i : Instr) (check : State → Option Cause) (effect : State → State) (s : State) :
    Host.Outcome State Fault Refusal :=
  if s.busy then .next (s.recordErr .cmdBusy (encode i))
  else
    match check s with
    | some c => .next (s.recordErr c (encode i))
    | none => .next (effect s)

/-- A command with no checks of its own (44_control.md R213 to R215, R219). -/
def noCheck (_ : State) : Option Cause := none

/-- The engine goes to a stage; BUSY follows STAGE (10_state.md R25). -/
def State.setStage (g : Stage) (s : State) : State := { s with status := { s.status with stage := g } }

/-- A long command has completed its last stage (44_control.md R217). -/
def State.finish (s : State) : State := { s with status := { s.status with stage := .idle, done := true } }

/-- RES_VALID, PEAK_VALID and ANGLE_VALID are cleared (10_state.md R30; 43_frame_ingest.md R198, R202). -/
def State.dropResults (s : State) : State :=
  { s with status := { s.status with resValid := false, peakValid := false, angleValid := false } }

/-- Both buffers are empty: A_COUNT and B_COUNT are 0 (10_state.md R32). -/
def State.emptyBuffers (s : State) : State := { s with buf := { aCount := 0, bCount := 0 } }

/-! Resets. -/

/-- Hardware reset: every register at its reset value, every RAM cell unspecified again, whatever the engine was doing
(70_reset_and_hazards.md R260). The pin's level is `level` afterwards. What is outside the block stays. -/
def State.hardReset (level : Bool) (s : State) : State :=
  State.initial s.build { s.env with rstN := level, resets := s.env.resets + 1 }

/-- Soft reset (70_reset_and_hazards.md R262): CTRL, IRQ_EN, the CFG registers, CYCLE and the RAMs are kept. -/
def State.softReset (s : State) : State :=
  { s with
    status := Status.reset
    error := { err := 0, cause := 0, info := 0 }
    buf := { aCount := 0, bCount := 0 }
    ingest := { fifo := [], frameCount := 0, resyncCount := 0 }
    peak := { maxVal := 0, maxIdx := 0, absVal := 0, absIdx := 0 }
    angle := { idx := 0, lag := 0, tdelay := 0, argRaw := 0, argClamp := 0, angle := 0 }
    time := { s.time with t0 := 0, t1 := 0 } }

end Sys2Proof.Machine
end

