-- ==== Sys2Proof/Machine/Operands.lean ====
section
/-! DEFINITION. The operand forms of the commands: N (10_state.md R30), samples and results as integers (00_scope.md R12), the
buffers' fullness (10_state.md R32), the validity of the geometry (42_angle.md R162), ANGLE's index sources (42_angle.md R161, R164). -/

namespace Sys2Proof.Machine

/-- N, the value of CFG_N (10_state.md R30). -/
def State.n (s : State) : Nat := s.cfg.n.toNat

/-- The number of result cells in use, 2N−1 (00_scope.md R17). -/
def State.resultLen (s : State) : Nat := 2 * s.n - 1

/-- `sext_32(A[j])` as an integer (40_correlation.md R123). -/
def State.sampleA (s : State) (j : Nat) : Int := (s.readA j).toInt
/-- `sext_32(B[k])` as an integer. -/
def State.sampleB (s : State) (k : Nat) : Int := (s.readB k).toInt
/-- `RES[i]`, int32, as an integer (41_peak.md R142). -/
def State.resInt (s : State) (i : Nat) : Int := (s.readRes i).toInt

/-- Both buffers hold exactly N samples (10_state.md R32). -/
def State.buffersFull (s : State) : Bool := s.buf.aCount.toNat == s.n && s.buf.bCount.toNat == s.n

/-- A finite binary32 greater than zero: bit 31 is 0, bits [30:23] are not 0xFF, the pattern is not 0 (42_angle.md R162). -/
def positiveFinite (x : Word) : Bool := !F32.sign x && F32.expo x != 0xFF && x != 0

/-- The geometry is valid (42_angle.md R162). -/
def State.geometryValid (s : State) : Bool :=
  positiveFinite s.cfg.fs && positiveFinite s.cfg.c && positiveFinite s.cfg.d

/-- The LENGTH check (40_correlation.md R121; 44_control.md R212). -/
def checkLength (s : State) : Option Cause := if s.buffersFull then none else some .length

/-- The CFG check (42_angle.md R162). -/
def checkGeometry (s : State) : Option Cause := if s.geometryValid then none else some .cfg

/-- RES_VALID must hold (41_peak.md R141). -/
def checkResult (s : State) : Option Cause := if s.status.resValid then none else some .noResult

/-- PEAK_VALID must hold (42_angle.md R161, S = 0). -/
def checkPeak (s : State) : Option Cause := if s.status.peakValid then none else some .noResult

/-- The immediate must be a result index: at most 2·CFG_N − 2 (42_angle.md R161, S = 1). -/
def checkIndex (imm : Nat) (s : State) : Option Cause := if (imm : Int) > 2 * (s.n : Int) - 2 then some .index else none

/-- The first check that fails (60_exceptions.md R235). -/
def firstFailure (p q : State → Option Cause) (s : State) : Option Cause :=
  match p s with
  | some c => some c
  | none => q s

/-- The result index of an ANGLE stage (42_angle.md R164). -/
def State.angleIndex (s : State) : Index :=
  match s.eng.src with
  | .imm => s.eng.imm
  | .peak => if s.eng.sel then s.peak.maxIdx else s.peak.absIdx

/-- `lag = idx − (N − 1)` (42_angle.md R164; 00_scope.md R17). -/
def State.lagOf (s : State) (idx : Nat) : Int := (idx : Int) - ((s.n : Int) - 1)

end Sys2Proof.Machine
end

