-- ==== Sys2Proof/Machine/Angle.lean ====
section
/-! DEFINITION. ANGLE, ANGLE.I and the ANGLE stage (42_angle.md R160 to R177). -/

namespace Sys2Proof.Machine

/-- `td = lf / CFG_FS` with `lf = i2f(lag)` (42_angle.md R165). -/
def delayOf (lag : Int) (fs : Word) : Word := F32.div (F32.ofInt lag) fs

/-- `arg = (td * CFG_C) / CFG_D` (42_angle.md R165). -/
def argOf (td c d : Word) : Word := F32.div (F32.mul td c) d

/-- The bearing: `f32_neg(ASIN_DEG(argc))` in DIRECT mode (42_angle.md R167), LUT[idx] unchanged in LUT mode (R169). -/
def State.bearing (s : State) (idx : Nat) (argc : Word) : Word :=
  if s.eng.amode then s.readLut idx else F32.neg (Config.asinDeg.fn argc)

/-- The ANGLE and ANGLE.I issue effect (42_angle.md R163). -/
def State.startAngle (src : IdxSrc) (imm : Index) (s : State) : State :=
  { s with
    eng := { s.eng with chain := .single, src := src, imm := imm, sel := s.peakSel, amode := s.angleMode }
    status := { s.status with done := false, angleValid := false, sat := false, stage := .angle } }

/-- The ANGLE stage's writes (42_angle.md R164 to R171). -/
def State.angleWrites (s : State) : State :=
  let idx := s.angleIndex
  let lag := s.lagOf idx.toNat
  let td := delayOf lag s.cfg.fs
  let arg := argOf td s.cfg.c s.cfg.d
  let cl := clampArg arg
  { s with
    angle :=
      { idx := idx, lag := BitVec.ofInt 32 lag, tdelay := td, argRaw := arg, argClamp := cl.1,
        angle := s.bearing idx.toNat cl.1 }
    status := { s.status with sat := cl.2, angleValid := true } }

/-- The engine step that completes ANGLE, always the last stage (42_angle.md R171; 44_control.md R217). -/
def State.completeAngle (s : State) : State := s.angleWrites.finish

/-- ANGLE, S = 0 (42_angle.md R161). `eng.imm` takes `w[26:16]`, which is 0. -/
def execAngle (s : State) : Host.Outcome State Fault Refusal :=
  s.issue .angle (firstFailure checkPeak checkGeometry) (State.startAngle .peak 0)

/-- ANGLE.I, S = 1 (42_angle.md R161, R163). -/
def execAngleI (imm : Nat) (s : State) : Host.Outcome State Fault Refusal :=
  s.issue (.angleI imm) (firstFailure (checkIndex imm) checkGeometry) (State.startAngle .imm (BitVec.ofNat 11 imm))

end Sys2Proof.Machine
end

