-- ==== Sys2Proof/Machine/Corr.lean ====
section
/-! DEFINITION. CORR.X and CORR.C and the CORR stage (40_correlation.md R120 to R133). -/

namespace Sys2Proof.Machine

/-- `Σ` of the first `n` values of `f`, one running sum in increasing order (40_correlation.md R123, R128). -/
def runningSum (f : Nat → Int) : Nat → Int
  | 0 => 0
  | n + 1 => runningSum f n + f n

/-- The index into B that pairs with `j` at result index `i`: `j + (i − (N−1))` in cross-correlation, `i − j` in convolution
(40_correlation.md R123, R124, R126). -/
def pairedIndex (m : Mode) (n i j : Nat) : Int :=
  match m with
  | .cross => (j : Int) + ((i : Int) - ((n : Int) - 1))
  | .conv => (i : Int) - (j : Int)

/-- The product at `j` of result index `i`; nothing where the paired index leaves the buffer (40_correlation.md R123). -/
def corrTerm (m : Mode) (a b : Nat → Int) (n i j : Nat) : Int :=
  let k := pairedIndex m n i j
  if 0 ≤ k ∧ k ≤ (n : Int) - 1 then a j * b k.toNat else 0

/-- Result index `i` of the correlation of two sequences of length `n` (40_correlation.md R123). -/
def correlate (m : Mode) (a b : Nat → Int) (n i : Nat) : Int := runningSum (corrTerm m a b n i) n

/-- The CorrelationResult: indexes 0..2N−2 as int32 words (40_correlation.md R123). -/
def State.correlation (s : State) (m : Mode) : List Word :=
  (List.range s.resultLen).map fun i => BitVec.ofInt 32 (correlate m s.sampleA s.sampleB s.n i)

/-- The CORR issue effect with mode `m` (40_correlation.md R122). -/
def State.startCorr (m : Mode) (s : State) : State :=
  { s with
    eng := { s.eng with chain := .single, mode := m }
    status :=
      { s.status with
        done := false, resValid := false, peakValid := false, angleValid := false, sat := false, frameRdy := false,
        stage := .corr }
    time := { s.time with t0 := s.time.cycle } }

/-- The CORR stage's writes: RES[0..2N−2], RES_VALID, RES_MODE, CORR_T1 (40_correlation.md R123). -/
def State.corrWrites (s : State) : State :=
  { s with
    res := Ram.setFrom s.res 0 (s.correlation s.eng.mode)
    status := { s.status with resValid := true, resMode := s.eng.mode }
    time := { s.time with t1 := s.time.cycle } }

/-- What follows the CORR stage (44_control.md R217). -/
def State.afterCorr (s : State) : State :=
  match s.eng.chain with
  | .run => s.setStage .peak
  | .single => s.finish

/-- The engine step that completes CORR (40_correlation.md R123; 44_control.md R217). -/
def State.completeCorr (s : State) : State := s.corrWrites.afterCorr

/-- CORR.X (40_correlation.md R121). -/
def execCorrX (s : State) : Host.Outcome State Fault Refusal := s.issue .corrX checkLength (State.startCorr .cross)

/-- CORR.C (40_correlation.md R121). -/
def execCorrC (s : State) : Host.Outcome State Fault Refusal := s.issue .corrC checkLength (State.startCorr .conv)

end Sys2Proof.Machine
end

