-- ==== Sys2Proof/Machine/Control.lean ====
section
/-! DEFINITION. NOP, RUN, CLRBUF, ACK, FLUSH, SRESET (44_control.md R210 to R219). -/

namespace Sys2Proof.Machine

/-- The RUN issue effect, also the AUTO_RUN start (44_control.md R212; 43_frame_ingest.md R199). -/
def State.startRun (s : State) : State :=
  let t := s.startCorr s.ctrlMode
  { t with eng := { t.eng with chain := .run, src := .peak, sel := s.peakSel, amode := s.angleMode } }

/-- CLRBUF's effect (44_control.md R213). -/
def State.clearBuffers (s : State) : State :=
  let t := s.emptyBuffers.dropResults
  { t with status := { t.status with sat := false, frameRdy := false } }

/-- ACK's effect (44_control.md R214). -/
def State.acknowledge (s : State) : State := { s with status := { s.status with done := false, frameRdy := false } }

/-- FLUSH's effect (44_control.md R215). -/
def State.flushFifo (s : State) : State := { s with ingest := { s.ingest with fifo := [] } }

/-- NOP: no checks, accepted while BUSY, no effect (44_control.md R210, R211). -/
def execNop (s : State) : Host.Outcome State Fault Refusal := .next s

/-- RUN (44_control.md R212). -/
def execRun (s : State) : Host.Outcome State Fault Refusal :=
  s.issue .run (firstFailure checkLength checkGeometry) State.startRun

/-- CLRBUF (44_control.md R213). -/
def execClrbuf (s : State) : Host.Outcome State Fault Refusal := s.issue .clrbuf noCheck State.clearBuffers

/-- ACK (44_control.md R214). -/
def execAck (s : State) : Host.Outcome State Fault Refusal := s.issue .ack noCheck State.acknowledge

/-- FLUSH (44_control.md R215). -/
def execFlush (s : State) : Host.Outcome State Fault Refusal := s.issue .flush noCheck State.flushFifo

/-- SRESET (44_control.md R219; 70_reset_and_hazards.md R262). -/
def execSreset (s : State) : Host.Outcome State Fault Refusal := s.issue .sreset noCheck State.softReset

end Sys2Proof.Machine
end

