-- ==== Sys2Proof/Machine/Peak.lean ====
section
/-! DEFINITION. PEAK and the PEAK stage (41_peak.md R140 to R146). -/

namespace Sys2Proof.Machine

/-- The signed scan over cells 0..k: the initial candidate is cell 0, a later cell wins only if it is greater
(41_peak.md R142). -/
def scanMax (f : Nat → Int) : Nat → Int × Nat
  | 0 => (f 0, 0)
  | k + 1 => if f (k + 1) > (scanMax f k).1 then (f (k + 1), k + 1) else scanMax f k

/-- The magnitude scan over the first `k` cells: the initial candidate is 0 at index 0 (41_peak.md R143). -/
def scanAbs (f : Nat → Int) : Nat → Nat × Nat
  | 0 => (0, 0)
  | k + 1 => if (f k).natAbs > (scanAbs f k).1 then ((f k).natAbs, k) else scanAbs f k

/-- The PEAK issue effect (41_peak.md R141). -/
def State.startPeak (s : State) : State :=
  { s with
    eng := { s.eng with chain := .single }
    status := { s.status with done := false, peakValid := false, angleValid := false, sat := false, stage := .peak } }

/-- The PEAK stage's writes (41_peak.md R142, R143, R141). -/
def State.peakWrites (s : State) : State :=
  let mx := scanMax s.resInt (s.resultLen - 1)
  let ab := scanAbs s.resInt s.resultLen
  { s with
    peak :=
      { maxVal := BitVec.ofInt 32 mx.1, maxIdx := BitVec.ofNat 11 mx.2,
        absVal := BitVec.ofNat 32 ab.1, absIdx := BitVec.ofNat 11 ab.2 }
    status := { s.status with peakValid := true } }

/-- What follows the PEAK stage (44_control.md R217). -/
def State.afterPeak (s : State) : State :=
  match s.eng.chain with
  | .run => s.setStage .angle
  | .single => s.finish

/-- The engine step that completes PEAK (41_peak.md R141; 44_control.md R217). -/
def State.completePeak (s : State) : State := s.peakWrites.afterPeak

/-- PEAK (41_peak.md R141). -/
def execPeak (s : State) : Host.Outcome State Fault Refusal := s.issue .peak checkResult State.startPeak

end Sys2Proof.Machine
end

