-- ==== Sys2Proof/Machine/Dispatch.lean ====
section
/-! DEFINITION. The meaning of a command written to CMD, one arm per constructor (44_control.md R211). -/

namespace Sys2Proof.Machine

def exec (i : Instr) (s : State) : Host.Outcome State Fault Refusal :=
  match i with
  | .nop => Sys2Proof.Machine.execNop s
  | .corrX => Sys2Proof.Machine.execCorrX s
  | .corrC => Sys2Proof.Machine.execCorrC s
  | .peak => Sys2Proof.Machine.execPeak s
  | .angle => Sys2Proof.Machine.execAngle s
  | .angleI imm => Sys2Proof.Machine.execAngleI imm s
  | .run => Sys2Proof.Machine.execRun s
  | .clrbuf => Sys2Proof.Machine.execClrbuf s
  | .ack => Sys2Proof.Machine.execAck s
  | .flush => Sys2Proof.Machine.execFlush s
  | .sreset => Sys2Proof.Machine.execSreset s

end Sys2Proof.Machine
end

