-- ==== Sys2Proof/Machine/Ingest.lean ====
section
/-! DEFINITION. The stream port, the FIFO, the deframer, the LOAD stage and the push ports (43_frame_ingest.md R190 to R204). -/

namespace Sys2Proof.Machine

/-- The FIFO has room: the stream port's `ready` (43_frame_ingest.md R190). -/
def State.fifoReady (s : State) : Bool := decide (s.ingest.fifo.length < s.build.fifoDepth)

/-- A byte at the FIFO's tail (43_frame_ingest.md R190, R191). -/
def State.appendByte (b : Byte) (s : State) : State :=
  { s with ingest := { s.ingest with fifo := s.ingest.fifo ++ [b] } }

/-- A STREAM_IN write: a byte for a full FIFO is dropped with FIFO_OVF (43_frame_ingest.md R191). -/
def State.streamIn (v : Word) (s : State) : State :=
  if s.fifoReady then s.appendByte (v.truncate 8) else s.recordErr .fifoOvf 0x044

/-- The deframer's gate (43_frame_ingest.md R194). -/
def State.deframerEnabled (s : State) : Bool :=
  s.defrEn && !s.busy && !s.status.done && !s.status.frameRdy && decide (2 + 2 * s.n ≤ s.ingest.fifo.length)

/-- The two oldest bytes are the header 0xFF 0xFF (43_frame_ingest.md R193, R195, R197). -/
def State.headerAtHead (s : State) : Bool := s.ingest.fifo.take 2 == [0xFF, 0xFF]

/-- A header mismatch discards exactly one byte and counts it (43_frame_ingest.md R195). -/
def State.discardByte (s : State) : State :=
  { s with ingest := { s.ingest with fifo := s.ingest.fifo.drop 1, resyncCount := s.ingest.resyncCount + 1 } }

/-- A header match consumes the header and enters LOAD (43_frame_ingest.md R197). -/
def State.startLoad (s : State) : State :=
  { s with ingest := { s.ingest with fifo := s.ingest.fifo.drop 2 }, status := { s.status with stage := .load } }

/-- The deframer's step, where it has one (43_frame_ingest.md R194 to R197). -/
def State.deframerStep (s : State) : State :=
  if s.deframerEnabled then
    if s.headerAtHead then s.startLoad else s.discardByte
  else s

/-- The LOAD stage's own writes (43_frame_ingest.md R198). -/
def State.loadWrites (s : State) : State :=
  let fifo := s.ingest.fifo
  { s with
    ramA := Ram.setFrom s.ramA 0 (fifo.take s.n)
    ramB := Ram.setFrom s.ramB 0 ((fifo.drop s.n).take s.n)
    buf := { aCount := BitVec.ofNat 11 s.n, bCount := BitVec.ofNat 11 s.n }
    ingest := { s.ingest with fifo := fifo.drop (2 * s.n), frameCount := s.ingest.frameCount + 1 }
    status :=
      { s.status with resValid := false, peakValid := false, angleValid := false, sat := false, frameRdy := true } }

/-- The information word of an AUTO_RUN start that the geometry forbids (43_frame_ingest.md R199). -/
def autoRunInfo : Word := 0xFFFFFFFF

/-- The AUTO_RUN start at the end of LOAD (43_frame_ingest.md R199). -/
def State.autoRunStart (s : State) : State :=
  if s.geometryValid then s.startRun else (s.recordErr .cfg autoRunInfo).setStage .idle

/-- What follows the LOAD stage; DONE is not set (43_frame_ingest.md R198, R199; 44_control.md R217). -/
def State.afterLoad (s : State) : State := if s.autoRun then s.autoRunStart else s.setStage .idle

/-- The engine step that completes LOAD (43_frame_ingest.md R198). -/
def State.completeLoad (s : State) : State := s.loadWrites.afterLoad

/-- A write of `v` to A_PUSH (43_frame_ingest.md R202; 10_state.md R33). -/
def State.pushA (v : Word) (s : State) : State :=
  if s.buf.aCount.toNat = s.n then s.recordErr .bufOvf 0x03C
  else
    State.dropResults
      { s with
        ramA := Ram.set s.ramA s.buf.aCount.toNat (v.truncate 8)
        buf := { s.buf with aCount := s.buf.aCount + 1 } }

/-- A write of `v` to B_PUSH (43_frame_ingest.md R202). -/
def State.pushB (v : Word) (s : State) : State :=
  if s.buf.bCount.toNat = s.n then s.recordErr .bufOvf 0x040
  else
    State.dropResults
      { s with
        ramB := Ram.set s.ramB s.buf.bCount.toNat (v.truncate 8)
        buf := { s.buf with bCount := s.buf.bCount + 1 } }

end Sys2Proof.Machine
end

