-- ==== Sys2Proof/Machine/Bus.lean ====
section
/-! DEFINITION. The bus window: the address map, the checks of an access, register and window reads and writes, CMD
(20_memory.md R70 to R90; 10_state.md R20 to R40; 44_control.md R211). -/

namespace Sys2Proof.Machine

/-- The registers of 10_state.md's table. -/
inductive Reg where
  | id
  | params
  | ctrl
  | status
  | cmd
  | err
  | errCause
  | errInfo
  | irqEn
  | cfgN
  | cfgFs
  | cfgC
  | cfgD
  | aCount
  | bCount
  | aPush
  | bPush
  | streamIn
  | streamLevel
  | frameCount
  | resyncCount
  | peakMaxVal
  | peakMaxIdx
  | peakAbsVal
  | peakAbsIdx
  | angleIdx
  | lag
  | tdelay
  | argRaw
  | argClamp
  | angle
  | cycle
  | corrT0
  | corrT1
  deriving DecidableEq, Repr

/-- The access kinds of 10_state.md R21. -/
inductive RegKind where
  | ro
  | rw
  | wo
  | w1c
  deriving DecidableEq, Repr

/-- What a mapped offset names (20_memory.md R72). -/
inductive Target where
  | reg (r : Reg)
  | sampleA (i : Nat)
  | sampleB (i : Nat)
  | result (i : Nat)
  | lut (i : Nat)
  deriving DecidableEq, Repr

/-- A read, or a write with its byte strobes (20_memory.md R74). -/
inductive AccessKind where
  | read
  | write (be : BitVec 4)
  deriving DecidableEq, Repr

/-- The offset of a register (10_state.md's table). -/
def Reg.offset : Reg → Nat
  | .id => 0x000
  | .params => 0x004
  | .ctrl => 0x008
  | .status => 0x00C
  | .cmd => 0x010
  | .err => 0x014
  | .errCause => 0x018
  | .errInfo => 0x01C
  | .irqEn => 0x020
  | .cfgN => 0x024
  | .cfgFs => 0x028
  | .cfgC => 0x02C
  | .cfgD => 0x030
  | .aCount => 0x034
  | .bCount => 0x038
  | .aPush => 0x03C
  | .bPush => 0x040
  | .streamIn => 0x044
  | .streamLevel => 0x048
  | .frameCount => 0x04C
  | .resyncCount => 0x050
  | .peakMaxVal => 0x054
  | .peakMaxIdx => 0x058
  | .peakAbsVal => 0x05C
  | .peakAbsIdx => 0x060
  | .angleIdx => 0x064
  | .lag => 0x068
  | .tdelay => 0x06C
  | .argRaw => 0x070
  | .argClamp => 0x074
  | .angle => 0x078
  | .cycle => 0x07C
  | .corrT0 => 0x080
  | .corrT1 => 0x084

/-- The kind of a register (10_state.md's table). -/
def Reg.kind : Reg → RegKind
  | .ctrl | .irqEn | .cfgN | .cfgFs | .cfgC | .cfgD => .rw
  | .cmd | .aPush | .bPush | .streamIn => .wo
  | .err => .w1c
  | .id | .params | .status | .errCause | .errInfo | .aCount | .bCount | .streamLevel | .frameCount | .resyncCount => .ro
  | .peakMaxVal | .peakMaxIdx | .peakAbsVal | .peakAbsIdx => .ro
  | .angleIdx | .lag | .tdelay | .argRaw | .argClamp | .angle | .cycle | .corrT0 | .corrT1 => .ro

/-- Every register, in the table's order. -/
def Reg.all : List Reg :=
  [.id, .params, .ctrl, .status, .cmd, .err, .errCause, .errInfo, .irqEn, .cfgN, .cfgFs, .cfgC, .cfgD, .aCount, .bCount,
    .aPush, .bPush] ++
  [.streamIn, .streamLevel, .frameCount, .resyncCount, .peakMaxVal, .peakMaxIdx, .peakAbsVal, .peakAbsIdx, .angleIdx, .lag,
    .tdelay, .argRaw, .argClamp, .angle, .cycle, .corrT0, .corrT1]

/-- The register at a register offset, if any (20_memory.md R72, R77). -/
def regAt (o : Nat) : Option Reg := Reg.all.find? fun r => r.offset == o

/-- The cell a window offset names, if the window has that cell (20_memory.md R72). -/
def cellAt (base size o : Nat) : Option Nat :=
  let i := (o - base) / 4
  if i < size then some i else none

/-- The address map (20_memory.md R72). -/
def targetAt (b : Config.Build) (o : Offset) : Option Target :=
  let a := o.toNat
  if a < 0x1000 then (regAt a).map .reg
  else if a < 0x2000 then (cellAt 0x1000 (Build.sampleCells b) a).map .sampleA
  else if a < 0x3000 then (cellAt 0x2000 (Build.sampleCells b) a).map .sampleB
  else if a < 0x4000 then none
  else if a < 0x6000 then (cellAt 0x4000 (Build.resultCells b) a).map .result
  else (cellAt 0x6000 (Build.resultCells b) a).map .lut

/-- A read of the target is possible (10_state.md R21; 20_memory.md R73, R79). -/
def Target.readable : Target → Bool
  | .reg r => r.kind != .wo
  | .sampleA _ | .sampleB _ | .result _ | .lut _ => true

/-- A write of the target is possible (10_state.md R21; 20_memory.md R73, R79). -/
def Target.writable : Target → Bool
  | .reg r => r.kind != .ro
  | .sampleA _ | .sampleB _ | .result _ => false
  | .lut _ => true

/-- Reads refused while BUSY (20_memory.md R83). -/
def Target.readRestricted : Target → Bool
  | .sampleA _ | .sampleB _ | .result _ | .lut _ => true
  | .reg .aCount | .reg .bCount | .reg .streamLevel | .reg .frameCount | .reg .resyncCount => true
  | .reg .peakMaxVal | .reg .peakMaxIdx | .reg .peakAbsVal | .reg .peakAbsIdx => true
  | .reg .angleIdx | .reg .lag | .reg .tdelay | .reg .argRaw | .reg .argClamp | .reg .angle => true
  | .reg .corrT0 | .reg .corrT1 => true
  | .reg .id | .reg .params | .reg .ctrl | .reg .status | .reg .err | .reg .errCause | .reg .errInfo | .reg .irqEn => false
  | .reg .cfgN | .reg .cfgFs | .reg .cfgC | .reg .cfgD | .reg .cycle => false
  | .reg .cmd | .reg .aPush | .reg .bPush | .reg .streamIn => false

/-- Writes refused while BUSY (20_memory.md R83). -/
def Target.writeRestricted : Target → Bool
  | .lut _ => true
  | .reg .ctrl | .reg .cfgN | .reg .cfgFs | .reg .cfgC | .reg .cfgD | .reg .aPush | .reg .bPush => true
  | .reg _ | .sampleA _ | .sampleB _ | .result _ => false

/-- The target's access kind allows the access (20_memory.md R74, R79). -/
def Target.allows (t : Target) : AccessKind → Bool
  | .read => t.readable
  | .write _ => t.writable

/-- The access is one that BUSY refuses (20_memory.md R83). -/
def Target.restricted (t : Target) : AccessKind → Bool
  | .read => t.readRestricted
  | .write _ => t.writeRestricted

/-- All four byte strobes are set (20_memory.md R76). -/
def AccessKind.fullWord : AccessKind → Bool
  | .read => true
  | .write be => be == 0b1111

/-- The checks of an access, in the order of 20_memory.md R74: the first that fails, or what the offset names. -/
def busCheck (s : State) (o : Offset) (k : AccessKind) : Except Cause Target :=
  if o.toNat % 4 ≠ 0 then .error .bus
  else if !k.fullWord then .error .bus
  else
    match targetAt s.build o with
    | none => .error .bus
    | some t =>
      if !t.allows k then .error .bus
      else if s.busy && t.restricted k then .error .busyAccess
      else .ok t

/-- ID (10_state.md R22). -/
def idWord : Word := 0x444F4131

/-- PARAMS: FIFO_DEPTH in [31:16], N_MAX in [10:0] (10_state.md R23). -/
def paramsWord (b : Config.Build) : Word := BitVec.ofNat 16 b.fifoDepth ++ 0#5 ++ BitVec.ofNat 11 b.nMax

/-- STREAM_LEVEL: the length of the FIFO (10_state.md R34). -/
def State.streamLevel (s : State) : Word := BitVec.ofNat 32 s.ingest.fifo.length

/-- What a register reads as; reserved bits read 0 (10_state.md R21 to R40). The write-only registers are never read: `busCheck`
refuses it, with data 0 (20_memory.md R78, R79). -/
def State.readReg (s : State) : Reg → Word
  | .id => idWord
  | .params => paramsWord s.build
  | .ctrl => s.cfg.ctrl.setWidth 32
  | .status => s.statusWord
  | .cmd | .aPush | .bPush | .streamIn => 0
  | .err => s.error.err.setWidth 32
  | .errCause => s.error.cause.setWidth 32
  | .errInfo => s.error.info
  | .irqEn => s.cfg.irqEn.setWidth 32
  | .cfgN => s.cfg.n
  | .cfgFs => s.cfg.fs
  | .cfgC => s.cfg.c
  | .cfgD => s.cfg.d
  | .aCount => s.buf.aCount.setWidth 32
  | .bCount => s.buf.bCount.setWidth 32
  | .streamLevel => s.streamLevel
  | .frameCount => s.ingest.frameCount
  | .resyncCount => s.ingest.resyncCount
  | .peakMaxVal => s.peak.maxVal
  | .peakMaxIdx => s.peak.maxIdx.setWidth 32
  | .peakAbsVal => s.peak.absVal
  | .peakAbsIdx => s.peak.absIdx.setWidth 32
  | .angleIdx => s.angle.idx.setWidth 32
  | .lag => s.angle.lag
  | .tdelay => s.angle.tdelay
  | .argRaw => s.angle.argRaw
  | .argClamp => s.angle.argClamp
  | .angle => s.angle.angle
  | .cycle => s.time.cycle
  | .corrT0 => s.time.t0
  | .corrT1 => s.time.t1

/-- What a target reads as; samples are sign-extended (20_memory.md R80). -/
def State.readTarget (s : State) : Target → Word
  | .reg r => s.readReg r
  | .sampleA i => (s.readA i).signExtend 32
  | .sampleB i => (s.readB i).signExtend 32
  | .result i => s.readRes i
  | .lut i => s.readLut i

/-- A write of `v` to CFG_N (10_state.md R30); BUSY was checked by `busCheck`. -/
def State.writeN (v : Word) (s : State) : State :=
  if v.toNat < 1 ∨ v.toNat > s.build.nMax then s.recordErr .cfg 0x024
  else
    let t := State.dropResults (State.emptyBuffers { s with cfg := { s.cfg with n := v } })
    { t with status := { t.status with frameRdy := false } }

/-- A command word written to CMD (44_control.md R211): a word that is no command is CMD_BUSY while BUSY and ILLEGAL_CMD
otherwise; a command is executed (its own issue checks BUSY). -/
def State.command (w : Word) (s : State) : Host.Outcome State Fault Refusal :=
  match decode w with
  | .ok i => exec i s
  | .error _ => .next (s.recordErr (if s.busy then .cmdBusy else .illegalCmd) w)

/-- The write rule of a register (10_state.md R21 to R40). Read-only registers are never written: `busCheck` refuses it. -/
def State.writeReg (s : State) (v : Word) : Reg → Host.Outcome State Fault Refusal
  | .cmd => s.command v
  | .ctrl => .next { s with cfg := { s.cfg with ctrl := v.truncate 5 } }
  | .err => .next (s.clearErr v)
  | .irqEn => .next { s with cfg := { s.cfg with irqEn := v.truncate 3 } }
  | .cfgN => .next (s.writeN v)
  | .cfgFs => .next { s with cfg := { s.cfg with fs := v } }
  | .cfgC => .next { s with cfg := { s.cfg with c := v } }
  | .cfgD => .next { s with cfg := { s.cfg with d := v } }
  | .aPush => .next (s.pushA v)
  | .bPush => .next (s.pushB v)
  | .streamIn => .next (s.streamIn v)
  | .id | .params | .status | .errCause | .errInfo | .aCount | .bCount | .streamLevel | .frameCount | .resyncCount => .next s
  | .peakMaxVal | .peakMaxIdx | .peakAbsVal | .peakAbsIdx => .next s
  | .angleIdx | .lag | .tdelay | .argRaw | .argClamp | .angle | .cycle | .corrT0 | .corrT1 => .next s

/-- The write rule of a target: of the windows only LUT is writable (20_memory.md R73, R80). -/
def State.writeTarget (s : State) (v : Word) : Target → Host.Outcome State Fault Refusal
  | .reg r => s.writeReg v r
  | .lut i => .next { s with lut := Ram.set s.lut i v }
  | .sampleA _ | .sampleB _ | .result _ => .next s

/-- The information word of a refused access: the offset (60_exceptions.md R230). -/
def offsetInfo (o : Offset) : Word := o.setWidth 32

/-- The block answers the host (20_memory.md R74, R78). -/
def State.respond (r : Response) (s : State) : State := { s with env := { s.env with resp := r } }

/-- `MemRead(o, 4)`: a refused read answers ERR with data 0 and records the error; a read has no side effect
(20_memory.md R74, R78, R81). -/
def State.busRead (o : Offset) (s : State) : State :=
  match busCheck s o .read with
  | .error c => (s.recordErr c (offsetInfo o)).respond (.read true 0)
  | .ok t => s.respond (.read false (s.readTarget t))

/-- `MemWrite(o, 4, v)` with strobes `be` (20_memory.md R74, R78): a write whose register rule raises an error still answers
OK. -/
def State.busWrite (o : Offset) (v : Word) (be : BitVec 4) (s : State) : Host.Outcome State Fault Refusal :=
  match busCheck s o (.write be) with
  | .error c => .next ((s.recordErr c (offsetInfo o)).respond (.write true))
  | .ok t => (s.respond (.write false)).writeTarget v t

/-- The platform's address of byte `k` of the word at an offset (20_memory.md R71). -/
def Build.byteAddress (b : Config.Build) (o : Offset) (k : Nat) : Nat := b.base + o.toNat + k

/-- The offset a platform address falls on, if it lies in this block's window (20_memory.md R70). -/
def Build.offsetAt (b : Config.Build) (addr : Nat) : Option Offset :=
  if b.base ≤ addr ∧ addr < b.base + 0x8000 then some (BitVec.ofNat 15 (addr - b.base)) else none

end Sys2Proof.Machine
end

