-- ==== Sys2Proof/Machine/Engine.lean ====
section
/-! DEFINITION. The engine agent: one step completes the current stage (44_control.md R216, R217). -/

namespace Sys2Proof.Machine

/-- The engine's step, where it has one: none while IDLE (44_control.md R216). -/
def State.engineStep (s : State) : State :=
  match s.status.stage with
  | .idle => s
  | .load => s.completeLoad
  | .corr => s.completeCorr
  | .peak => s.completePeak
  | .angle => s.completeAngle

end Sys2Proof.Machine
end

