-- ==== Sys2Proof/Machine/Agents.lean ====
section
/-! DEFINITION. The four agents of 00_scope.md R6, which of them moves next, and the passing of time (60_exceptions.md R245). -/

namespace Sys2Proof.Machine

/-- Time passes: CYCLE shows a new draw (60_exceptions.md R245; notes/assumptions/5.md). -/
def State.tick (s : State) : State :=
  { s with
    env := { s.env with draws := s.env.draws + 1 }
    time := { s.time with cycle := Config.cycleDraw s.env.draws } }

/-- The bit of STATUS a polling loop waits for has its level in the word just read (30_encoding.md R108). -/
def pollEnds (bit : Nat) (level : Bool) : Response → Bool
  | .read false w => w.getLsbD bit == level
  | .read true _ | .write _ | .none => false

/-- The host has used up the head of its program. -/
def State.programLeft (rest : List HostAction) (s : State) : State :=
  { s with env := { s.env with hostProgram := rest } }

/-- One round of a polling loop on the host: STATUS is read; the loop stays at the head of the program until its condition
holds (30_encoding.md R108 `wait`, `wait.done`). -/
def State.pollStep (bit : Nat) (level : Bool) (rest : List HostAction) (s : State) : State :=
  let t := s.busRead 0x00C
  if pollEnds bit level t.env.resp then t.programLeft rest else t

/-- The host drives `rst_n` to a level. Driving it low is a hardware reset, and so is the release; the level it already has
changes nothing (70_reset_and_hazards.md R260; notes/assumptions/11.md). -/
def State.driveReset (level : Bool) (s : State) : State := if s.env.rstN = level then s else s.hardReset level

/-- One action of the host, with the rest of its program. While `rst_n` is low an access has no move (20_memory.md R90, I19):
the model is stuck there. -/
def State.hostAct (a : HostAction) (rest : List HostAction) (s : State) : Host.Outcome State Fault Refusal :=
  match a with
  | .assertReset => .next ((s.programLeft rest).driveReset false)
  | .releaseReset => .next ((s.programLeft rest).driveReset true)
  | .read o => if s.env.rstN then .next ((s.programLeft rest).busRead o) else .fault .accessDuringReset
  | .write o v be => if s.env.rstN then (s.programLeft rest).busWrite o v be else .fault .accessDuringReset
  | .poll bit level => if s.env.rstN then .next (s.pollStep bit level rest) else .fault .accessDuringReset

/-- The host's turn: its next action, if it has one (00_scope.md R6, R7). -/
def State.hostStep (s : State) : Host.Outcome State Fault Refusal :=
  match s.env.hostProgram with
  | [] => .next s
  | a :: rest => s.hostAct a rest

/-- The stream source's turn: its next byte, if it has one and the port is ready; otherwise it waits and no byte is lost
(43_frame_ingest.md R190). -/
def State.streamStep (s : State) : State :=
  match s.env.streamSource with
  | [] => s
  | b :: rest =>
    if s.fifoReady then { s with env := { s.env with streamSource := rest } }.appendByte b else s

/-- The agent's turn. While `rst_n` is low no agent of the block has a step and the stream port is not ready
(70_reset_and_hazards.md R260). An agent that has no step lets its turn pass (notes/assumptions/12.md). -/
def State.turn (g : Agent) (s : State) : Host.Outcome State Fault Refusal :=
  match g with
  | .host => s.hostStep
  | .stream => .next (if s.env.rstN then s.streamStep else s)
  | .engine => .next (if s.env.rstN then s.engineStep else s)
  | .deframer => .next (if s.env.rstN then s.deframerStep else s)

/-- Who moves when the schedule names nobody: a stage completes first (44_control.md R218), then the deframer, then the host,
then the stream source. DESIGN CHOICE: one order of the many 00_scope.md R6 admits (notes/assumptions/1.md). -/
def State.defaultAgent (s : State) : Agent :=
  if s.env.rstN && s.busy then .engine
  else if s.env.rstN && s.deframerEnabled then .deframer
  else if s.env.hostProgram.isEmpty then .stream
  else .host

/-- The next agent, and the state in which its entry of the schedule is used up. -/
def State.nextAgent (s : State) : Agent × State :=
  match s.env.schedule with
  | [] => (s.defaultAgent, s)
  | g :: rest => (g, { s with env := { s.env with schedule := rest } })

/-- One step of the machine: time passes, the next agent moves. -/
def State.agentStep (s : State) : Host.Outcome State Fault Refusal :=
  let p := s.tick.nextAgent
  p.2.turn p.1

/-- CMD's offset (10_state.md R26). -/
def cmdOffset : Offset := 0x010

/-- The state in which the host's next action is a write of a command word to CMD and the host moves next. -/
def State.withCommand (w : Word) (s : State) : State :=
  { s with
    env :=
      { s.env with
        rstN := true
        hostProgram := .write cmdOffset w 0b1111 :: s.env.hostProgram
        schedule := .host :: s.env.schedule } }

end Sys2Proof.Machine
end

