-- ==== Sys2Proof/Machine/Step.lean ====
section
/-! DEFINITION. One step of the machine (00_scope.md R6), and a command placed where the next step takes it. -/

namespace Sys2Proof.Machine

/-- One atomic step of the next agent. -/
def step (s : State) : Host.Outcome State Fault Refusal := s.agentStep

/-- The state in which the next step is the host's write of this word to CMD: the command is placed at the head of the host's
program and the host moves next (notes/assumptions/2.md). The bits above `nbits` are 0. -/
def State.withFetchWord (s : State) (nbits w : Nat) : State := s.withCommand (BitVec.ofNat 32 (w % 2 ^ nbits))

end Sys2Proof.Machine
end

