-- ==== Sys2Proof/WellFormed.lean ====
section
/-! DEFINITION. Which instructions the encoding admits (30_encoding.md R101, R106) and which build parameters 00_scope.md R9 and
20_memory.md R70 admit. -/

namespace Sys2Proof

/-- The operand range of the encoding: IMM16 holds 0..65535 (30_encoding.md R101). -/
def Instr.wellFormed : Instr → Bool
  | .angleI imm => decide (imm < 65536)
  | .nop | .corrX | .corrC | .peak | .angle | .run | .clrbuf | .ack | .flush | .sreset => true

/-- The constraints of 00_scope.md R9 and, for BASE, 20_memory.md R70. -/
def Config.Build.wellFormed (b : Config.Build) : Bool :=
  decide (1 ≤ b.nMax ∧ b.nMax ≤ 1024) && decide (1 ≤ b.nReset ∧ b.nReset ≤ b.nMax) &&
    decide (2 * b.nMax + 2 ≤ b.fifoDepth ∧ b.fifoDepth ≤ 65535) && decide (1 ≤ b.macLanes) &&
    decide (b.base % 0x8000 = 0)

end Sys2Proof
end

