-- ==== Sys2Proof/Machine/HostProgram.lean ====
section
/-! DEFINITION. Host programs: assembler lines (30_encoding.md R106), host lines (R107) and the expansions of the
pseudo-instructions (R108) into the host's actions. -/

namespace Sys2Proof.Machine

/-- A line of a host program (30_encoding.md R107, R108). -/
inductive HostLine where
  | wr (o : Offset) (v : Word)
  | rd (o : Offset)
  | cmd (i : Instr)
  | pushA (v : Int)
  | pushB (v : Int)
  | loadA (vs : List Int)
  | loadB (vs : List Int)
  | byte (v : Int)
  | bytes (vs : List Int)
  | wait
  | waitDone
  | clrerr
  deriving DecidableEq, Repr

/-- `wr o, v`: all strobes (30_encoding.md R107). -/
def wrAction (o : Offset) (v : Word) : HostAction := .write o v 0b1111

/-- `v & 0xFF` (30_encoding.md R108). -/
def lowByte (v : Int) : Word := BitVec.ofInt 32 v &&& 0xFF

/-- The expansions of 30_encoding.md R107 and R108; the two loops stay loops, run by the host. -/
def HostLine.expand : HostLine → List HostAction
  | .wr o v => [wrAction o v]
  | .rd o => [.read o]
  | .cmd i => [wrAction cmdOffset (encode i)]
  | .pushA v => [wrAction 0x03C (lowByte v)]
  | .pushB v => [wrAction 0x040 (lowByte v)]
  | .loadA vs => vs.map fun v => wrAction 0x03C (lowByte v)
  | .loadB vs => vs.map fun v => wrAction 0x040 (lowByte v)
  | .byte v => [wrAction 0x044 (lowByte v)]
  | .bytes vs => vs.map fun v => wrAction 0x044 (lowByte v)
  | .wait => [.poll 0 false]
  | .waitDone => [.poll 4 true]
  | .clrerr => [wrAction 0x014 0x3FF]

/-- A host program appended to what the host still has to do. -/
def State.withHostLines (ls : List HostLine) (s : State) : State :=
  { s with env := { s.env with hostProgram := s.env.hostProgram ++ ls.flatMap HostLine.expand } }

/-- The value of a digit character, decimal or hexadecimal. DESIGN CHOICE: hexadecimal digits in either case, where 30_encoding.md
R106 shows none (notes/assumptions/25.md). -/
def digitValue (c : Char) : Option Nat :=
  let k := c.toNat
  if 48 ≤ k ∧ k ≤ 57 then some (k - 48)
  else if 97 ≤ k ∧ k ≤ 102 then some (k - 87)
  else if 65 ≤ k ∧ k ≤ 70 then some (k - 55)
  else none

/-- Digits in a base, most significant first, after a value already read. -/
def readDigits (base : Nat) (acc : Nat) : List Char → Option Nat
  | [] => some acc
  | c :: cs =>
    match digitValue c with
    | none => none
    | some d => if d < base then readDigits base (acc * base + d) cs else none

/-- A number, decimal or 0x-hexadecimal (30_encoding.md R106). DESIGN CHOICE: `0x` in lower case only, leading zeros allowed
(notes/assumptions/25.md). -/
def readNumber : List Char → Option Nat
  | [] => none
  | '0' :: 'x' :: c :: cs => readDigits 16 0 (c :: cs)
  | c :: cs => readDigits 10 0 (c :: cs)

/-- A line without its comment and without the blanks around it (30_encoding.md R106). DESIGN CHOICE: a blank is a space only, any
number of them, and `;` starts a comment anywhere (notes/assumptions/25.md). -/
def stripLine (l : List Char) : List Char :=
  (((l.takeWhile (· != ';')).dropWhile (· == ' ')).reverse.dropWhile (· == ' ')).reverse

/-- The lines of 30_encoding.md R106 that take no operand. -/
def plainLines : List (List Char × Instr) :=
  [(['n', 'o', 'p'], .nop), (['c', 'o', 'r', 'r', '.', 'x'], .corrX), (['c', 'o', 'r', 'r', '.', 'c'], .corrC),
    (['p', 'e', 'a', 'k'], .peak), (['a', 'n', 'g', 'l', 'e'], .angle), (['r', 'u', 'n'], .run),
    (['c', 'l', 'r', 'b', 'u', 'f'], .clrbuf), (['a', 'c', 'k'], .ack), (['f', 'l', 'u', 's', 'h'], .flush),
    (['s', 'r', 'e', 's', 'e', 't'], .sreset)]

/-- `angle #<index>`, index 0..65535 (30_encoding.md R106). DESIGN CHOICE: any number of spaces, or none, between `angle` and `#`,
none after `#`; a tab makes the line no command (notes/assumptions/25.md). -/
def readAngleLine (l : List Char) : Option Instr :=
  if l.take 5 = ['a', 'n', 'g', 'l', 'e'] then
    match (l.drop 5).dropWhile (· == ' ') with
    | '#' :: digits =>
      match readNumber digits with
      | some k => if Instr.wellFormed (.angleI k) then some (.angleI k) else none
      | none => none
    | _ => none
  else none

/-- A line of assembly to the command it names (30_encoding.md R106); its word is `encode` of that. What a line may look like beyond
the form R106 shows is a DESIGN CHOICE (notes/assumptions/25.md). -/
def assembleLine (line : List Char) : Option Instr :=
  let l := stripLine line
  match plainLines.find? fun p => p.1 == l with
  | some p => some p.2
  | none => readAngleLine l

end Sys2Proof.Machine
end

