-- ==== Sys2Proof/Safety.lean ====
section
/-! DEFINITION. What counts as a legal state and as an undisturbed part of one, in the terms the statements use: the invariants
of 10_state.md R32, R43 and 44_control.md R220, and the frames. -/

namespace Sys2Proof.Machine

/-- CFG_N is legal (10_state.md R30). -/
def State.LegalN (s : State) : Prop := 1 ≤ s.n ∧ s.n ≤ s.build.nMax

/-- 0 ≤ A_COUNT ≤ CFG_N and 0 ≤ B_COUNT ≤ CFG_N (10_state.md R32). -/
def State.CountsBounded (s : State) : Prop := s.buf.aCount.toNat ≤ s.n ∧ s.buf.bCount.toNat ≤ s.n

/-- The sequencing invariants of 44_control.md R220, with what a running stage needs to keep them. -/
def State.Sequenced (s : State) : Prop :=
  (s.status.done = true → s.status.stage = .idle) ∧
  (s.status.peakValid = true → s.status.resValid = true) ∧
  (s.status.resValid = true → s.buffersFull = true) ∧
  (s.status.frameRdy = true → s.buffersFull = true) ∧
  (s.status.stage = .corr → s.buffersFull = true ∧ s.status.resValid = false) ∧
  (s.status.stage = .peak → s.status.resValid = true)

/-- The FIFO holds at most FIFO_DEPTH bytes (10_state.md R46), and a running LOAD has its payload (43_frame_ingest.md R197). -/
def State.FifoBounded (s : State) : Prop :=
  s.ingest.fifo.length ≤ s.build.fifoDepth ∧ (s.status.stage = .load → 2 * s.n ≤ s.ingest.fifo.length)

/-- A RUN in its CORR or PEAK stage takes its index from the peak (44_control.md R212). -/
def State.RunUsesPeak (s : State) : Prop :=
  s.eng.chain = .run → (s.status.stage = .corr ∨ s.status.stage = .peak) → s.eng.src = .peak

/-- An ANGLE stage that is running or will follow was issued with a valid geometry (42_angle.md R162; 20_memory.md R88). -/
def State.GeometryHeld (s : State) : Prop :=
  (s.status.stage = .angle ∨ (s.eng.chain = .run ∧ (s.status.stage = .corr ∨ s.status.stage = .peak))) →
    s.geometryValid = true

/-- The peak indexes and the index of a running ANGLE stage are result indexes (42_angle.md R164). -/
def State.IndexesLegal (s : State) : Prop :=
  (s.status.peakValid = true → s.peak.maxIdx.toNat ≤ 2 * s.n - 2 ∧ s.peak.absIdx.toNat ≤ 2 * s.n - 2) ∧
  (s.status.stage = .angle → s.angleIndex.toNat ≤ 2 * s.n - 2)

/-- The invariant of the machine. -/
def State.Inv (s : State) : Prop :=
  s.build.wellFormed = true ∧ s.LegalN ∧ s.CountsBounded ∧ s.Sequenced ∧ s.FifoBounded ∧ s.RunUsesPeak ∧
    s.GeometryHeld ∧ s.IndexesLegal ∧ Memory.wf s

/-- 10_state.md R43: while RES_VALID is 1 the result RAM holds the correlation, in mode RES_MODE, of the full buffers. -/
def State.ResultsCurrent (s : State) : Prop :=
  s.status.resValid = true →
    s.buffersFull = true ∧
      ∀ i, i < s.resultLen → s.resInt i = correlate s.status.resMode s.sampleA s.sampleB s.n i

/-- 10_state.md R25: while PEAK_VALID is 1 the peak registers hold the peak of the current result RAM. -/
def State.PeaksCurrent (s : State) : Prop :=
  s.status.peakValid = true →
    s.peak.maxVal.toInt = (scanMax s.resInt (s.resultLen - 1)).1 ∧
    s.peak.maxIdx.toNat = (scanMax s.resInt (s.resultLen - 1)).2 ∧
    s.peak.absVal.toNat = (scanAbs s.resInt s.resultLen).1 ∧
    s.peak.absIdx.toNat = (scanAbs s.resInt s.resultLen).2

/-- Every cell of the four RAMs reads as it did. -/
def State.SameRams (s t : State) : Prop :=
  (∀ j, t.readA j = s.readA j) ∧ (∀ j, t.readB j = s.readB j) ∧ (∀ i, t.readRes i = s.readRes i) ∧
    ∀ i, t.readLut i = s.readLut i

/-- What a running stage works on: the geometry and mode registers, the counts, the RAMs, the latches and the stage
(20_memory.md R83, R88), and the payload at the FIFO's head, behind which bytes may arrive (43_frame_ingest.md R197). -/
def State.SameOperands (s t : State) : Prop :=
  t.build = s.build ∧ t.cfg.ctrl = s.cfg.ctrl ∧ t.cfg.n = s.cfg.n ∧ t.cfg.fs = s.cfg.fs ∧ t.cfg.c = s.cfg.c ∧
    t.cfg.d = s.cfg.d ∧ t.buf = s.buf ∧ t.eng = s.eng ∧ t.status = s.status ∧ t.peak = s.peak ∧ t.angle = s.angle ∧
    s.ingest.fifo <+: t.ingest.fifo ∧ s.SameRams t

/-- How many stages are still to complete at most (44_control.md R216, R217). -/
def Stage.rank : Stage → Nat
  | .idle => 0
  | .angle => 1
  | .peak => 2
  | .corr => 3
  | .load => 4

/-- A run has ended: the host has no access and the stream source no byte left, the engine is idle and the deframer has no step
(00_scope.md R8). -/
def State.RunEnded (s : State) : Prop :=
  s.env.hostProgram = [] ∧ s.env.streamSource = [] ∧ s.busy = false ∧ s.deframerEnabled = false

/-- The machine does not stop: the next step gives a next state. -/
def State.RunsOn (s : State) : Prop := ∃ t, step s = .next t

/-- The next agent to move (00_scope.md R6), with CYCLE's draw taken and its turn used up. -/
def State.turnOf (s : State) : Agent := s.tick.nextAgent.1
/-- The state in which that agent moves. -/
def State.atTurn (s : State) : State := s.tick.nextAgent.2

end Sys2Proof.Machine
end

