-- ==== Sys2Proof/Certificates/Slice0/Obligations.lean ====
section
/-! DEFINITION. The statements about the DOA correlation engine, from the numbered rules of spec/. -/

open Sys2Proof Sys2Proof.Machine

/-! Words and their decoding. -/

/-- 30_encoding.md R101 to R104: decoding the word of a well-formed instruction gives it back, ANGLE.I with every index, and
no other word is read as a command. -/
def Obligations.DecodeInvertsEncode : Prop :=
  (∀ i : Instr, i.wellFormed = true → decode (encode i) = .ok i) ∧
  ∀ (w : Word) (i : Instr), decode w = .ok i → i.wellFormed = true ∧ encode i = w

/-- 30_encoding.md R102: a word is read as a command exactly when it matches a row under the row's mask, and then one row. -/
def Obligations.AcceptedWordsMatchOneRow : Prop :=
  (∀ (w : Word) (i : Instr), decode w = .ok i → matchesRow w i = true) ∧
  (∀ (w : Word) (i : Instr), matchesRow w i = true → ∃ j, decode w = .ok j ∧ opcodeRow j = opcodeRow i) ∧
  (∀ (w : Word) (i j : Instr), matchesRow w i = true → matchesRow w j = true → opcodeRow i = opcodeRow j)

/-- 95_test_vectors.md 3.4: words written out from the table decode as it says. -/
def Obligations.TableWordsDecode : Prop :=
  decode 0x00000000 = .ok .nop ∧ decode 0x00000001 = .ok .corrX ∧ decode 0x00000011 = .ok .corrC ∧
  decode 0x00000002 = .ok .peak ∧ decode 0x00000003 = .ok .angle ∧ decode 0x007C0013 = .ok (.angleI 124) ∧
  decode 0x00000004 = .ok .run ∧ decode 0x00000005 = .ok .clrbuf ∧ decode 0x00000006 = .ok .ack ∧
  decode 0x00000007 = .ok .flush ∧ decode 0x00000008 = .ok .sreset ∧
  decode 0x00000019 = .error .reservedOpcode ∧ decode 0x00000012 = .error .strayModifier ∧
  decode 0x00010004 = .error .strayImmediate ∧ decode 0x00008003 = .error .reservedBits

/-- What 30_encoding.md R104 calls reserved or illegal: a reserved opcode, a nonzero RSV, a nonzero F or IMM16 where R100
requires 0. -/
def Sys2Proof.illegalWord (w : Word) : Prop :=
  9 ≤ (opField w).toNat ∨ rsvField w ≠ 0 ∨ (fField w = true ∧ opField w ≠ 0x1 ∧ opField w ≠ 0x3) ∨
    (immField w ≠ 0 ∧ ¬(opField w = 0x3 ∧ fField w = true))

/-- 30_encoding.md R104: every word is one command or illegal; an illegal word issued while idle raises ILLEGAL_CMD with the
word and has no other effect. 44_control.md R211: every word the host writes to CMD is issued so, busy or not, and the write is
answered OK. -/
def Obligations.IllegalWordsRaiseIllegalCmd : Prop :=
  (∀ w : Word, illegalWord w ↔ ∀ i, decode w ≠ .ok i) ∧
  (∀ (s : State) (w : Word), s.busWrite 0x010 w 0b1111 = (s.respond (.write false)).command w) ∧
  ∀ (s : State) (w : Word), s.busy = false → illegalWord w →
    s.command w = .next (s.recordErr .illegalCmd w) ∧
    s.busWrite 0x010 w 0b1111 = .next ((s.recordErr .illegalCmd w).respond (.write false))

/-! The issue of a command. -/

/-- 44_control.md R211: while BUSY every word but 0 raises CMD_BUSY with the word, and nothing else happens, also when it comes
as a CMD write, which is answered OK. -/
def Obligations.BusyRefusesEveryCommandButNop : Prop :=
  ∀ (s : State) (w : Word), s.busy = true → w ≠ 0 →
    s.command w = .next (s.recordErr .cmdBusy w) ∧
    s.busWrite 0x010 w 0b1111 = .next ((s.recordErr .cmdBusy w).respond (.write false))

/-- 44_control.md R210: NOP completes in every state and changes nothing, also as the word 0 written to CMD; a word with OP = 0
and any other bit set is illegal, or CMD_BUSY while BUSY. -/
def Obligations.NopChangesNothing : Prop :=
  ∀ s : State, exec .nop s = .next s ∧ s.command 0 = .next s ∧
    ∀ w : Word, opField w = 0 → w ≠ 0 →
      s.command w = .next (s.recordErr (if s.busy = true then .cmdBusy else .illegalCmd) w)

/-- 60_exceptions.md R235 with 40_correlation.md R121, 41_peak.md R141, 42_angle.md R161, R162, 44_control.md R212: the checks of
each command while idle, in their order, and the information word each records. -/
def Obligations.IssueChecksInOrder : Prop :=
  ∀ s : State, s.busy = false →
    (s.buffersFull = false →
      exec .corrX s = .next (s.recordErr .length 0x00000001) ∧ exec .corrC s = .next (s.recordErr .length 0x00000011) ∧
      exec .run s = .next (s.recordErr .length 0x00000004)) ∧
    (s.buffersFull = true → s.geometryValid = false → exec .run s = .next (s.recordErr .cfg 0x00000004)) ∧
    (s.status.resValid = false → exec .peak s = .next (s.recordErr .noResult 0x00000002)) ∧
    (s.status.peakValid = false → exec .angle s = .next (s.recordErr .noResult 0x00000003)) ∧
    (s.status.peakValid = true → s.geometryValid = false → exec .angle s = .next (s.recordErr .cfg 0x00000003)) ∧
    ∀ imm : Nat, imm < 65536 →
      ((2 * (s.n : Int) - 2 < imm →
          exec (.angleI imm) s = .next (s.recordErr .index (BitVec.ofNat 32 (imm * 65536 + 0x13)))) ∧
        ((imm : Int) ≤ 2 * (s.n : Int) - 2 → s.geometryValid = false →
          exec (.angleI imm) s = .next (s.recordErr .cfg (BitVec.ofNat 32 (imm * 65536 + 0x13)))))

/-- 44_control.md R211, R231: a command other than SRESET that changes the error record changes nothing else. -/
def Obligations.RejectedCommandChangesOnlyErrors : Prop :=
  ∀ (i : Instr) (s t : State), i ≠ .sreset → exec i s = .next t → t.error ≠ s.error → t = { s with error := t.error }

/-- 40_correlation.md R122: the issue effect of CORR.X and CORR.C, and of RUN, which has it with m = CTRL.MODE before its own
four latches (44_control.md R212). -/
def Obligations.CorrIssueEffect : Prop :=
  ∀ s : State, s.busy = false → s.buffersFull = true →
    let after (m : Mode) : State :=
      { s with
        eng := { s.eng with chain := .single, mode := m }
        status :=
          { s.status with
            done := false, resValid := false, peakValid := false, angleValid := false, sat := false, frameRdy := false,
            stage := .corr }
        time := { s.time with t0 := s.time.cycle } }
    exec .corrX s = .next (after .cross) ∧ exec .corrC s = .next (after .conv) ∧
      (∀ m, (after m).busy = true) ∧
      (s.geometryValid = true →
        let m : Mode := if s.cfg.ctrl.getLsbD 0 = true then .conv else .cross
        exec .run s = .next
          { after m with
            eng :=
              { s.eng with
                chain := .run, mode := m, src := .peak, sel := s.cfg.ctrl.getLsbD 1, amode := s.cfg.ctrl.getLsbD 2 } })

/-- 42_angle.md R163: the issue effect of ANGLE and of ANGLE.I, `eng.imm` being `w[26:16]`. -/
def Obligations.AngleIssueEffect : Prop :=
  ∀ s : State, s.busy = false → s.geometryValid = true →
    let after (src : IdxSrc) (w : Word) : State :=
      { s with
        eng :=
          { s.eng with
            chain := .single, src := src, imm := w.extractLsb' 16 11, sel := s.cfg.ctrl.getLsbD 1,
            amode := s.cfg.ctrl.getLsbD 2 }
        status := { s.status with done := false, angleValid := false, sat := false, stage := .angle } }
    (s.status.peakValid = true → exec .angle s = .next (after .peak (encode .angle))) ∧
    (∀ imm : Nat, imm < 65536 → (imm : Int) ≤ 2 * (s.n : Int) - 2 →
      exec (.angleI imm) s = .next (after .imm (encode (.angleI imm)))) ∧
    ∀ src w, (after src w).busy = true

/-- 41_peak.md R141: the issue effect of PEAK. -/
def Obligations.PeakIssueEffect : Prop :=
  ∀ s : State, s.busy = false → s.status.resValid = true →
    let after : State :=
      { s with
        eng := { s.eng with chain := .single }
        status := { s.status with done := false, peakValid := false, angleValid := false, sat := false, stage := .peak } }
    exec .peak s = .next after ∧ after.busy = true

/-- 44_control.md R213 to R215: the effects of CLRBUF, ACK and FLUSH, each with nothing else changed. -/
def Obligations.ClrbufAckFlushEffects : Prop :=
  ∀ s : State, s.busy = false →
    exec .clrbuf s = .next
      { s with
        buf := { aCount := 0, bCount := 0 }
        status :=
          { s.status with resValid := false, peakValid := false, angleValid := false, sat := false, frameRdy := false } } ∧
    exec .ack s = .next { s with status := { s.status with done := false, frameRdy := false } } ∧
    (s.status.done = false → s.status.frameRdy = false → exec .ack s = .next s) ∧
    exec .flush s = .next { s with ingest := { s.ingest with fifo := [] } }

/-- 70_reset_and_hazards.md R262: what SRESET clears and what it keeps; while BUSY it is CMD_BUSY. -/
def Obligations.SresetEffect : Prop :=
  (∀ s : State, s.busy = true → exec .sreset s = .next (s.recordErr .cmdBusy 0x00000008)) ∧
  ∀ s : State, s.busy = false → ∃ t, exec .sreset s = .next t ∧
    t.statusWord = 0 ∧ t.error.err = 0 ∧ t.error.cause = 0 ∧ t.error.info = 0 ∧
    t.buf.aCount = 0 ∧ t.buf.bCount = 0 ∧ t.ingest.fifo = [] ∧ t.streamLevel = 0 ∧
    t.ingest.frameCount = 0 ∧ t.ingest.resyncCount = 0 ∧
    t.peak.maxVal = 0 ∧ t.peak.maxIdx = 0 ∧ t.peak.absVal = 0 ∧ t.peak.absIdx = 0 ∧
    t.angle.idx = 0 ∧ t.angle.lag = 0 ∧ t.angle.tdelay = 0 ∧ t.angle.argRaw = 0 ∧ t.angle.argClamp = 0 ∧ t.angle.angle = 0 ∧
    t.time.t0 = 0 ∧ t.time.t1 = 0 ∧
    t.cfg = s.cfg ∧ t.time.cycle = s.time.cycle ∧ t.ramA = s.ramA ∧ t.ramB = s.ramB ∧ t.res = s.res ∧ t.lut = s.lut ∧
    t.eng = s.eng ∧ t.env = s.env ∧ t.build = s.build

/-- The frame of every command (40_correlation.md R121, 41_peak.md R141, 42_angle.md R161, 44_control.md R210 to R219): no command
writes a RAM cell, a configuration register or CYCLE; what each leaves of the counts, the FIFO, the result registers, the
latches and the timestamps. -/
def Obligations.CommandFrame : Prop :=
  ∀ (i : Instr) (s t : State), exec i s = .next t →
    t.build = s.build ∧ t.env = s.env ∧ t.cfg = s.cfg ∧ t.time.cycle = s.time.cycle ∧ s.SameRams t ∧
    (i ≠ .clrbuf → i ≠ .sreset → t.buf = s.buf) ∧
    (i ≠ .flush → i ≠ .sreset → t.ingest = s.ingest) ∧
    (i ≠ .sreset → t.peak = s.peak ∧ t.angle = s.angle ∧ t.time.t1 = s.time.t1 ∧ t.status.resMode = s.status.resMode) ∧
    (i ≠ .corrX → i ≠ .corrC → i ≠ .run → i ≠ .sreset → t.time.t0 = s.time.t0) ∧
    (i = .nop ∨ i = .clrbuf ∨ i = .ack ∨ i = .flush ∨ i = .sreset → t.eng = s.eng ∧ t.status.stage = s.status.stage) ∧
    (i = .flush → t.status = s.status)

/-! The engine's stages. -/

/-- 43_frame_ingest.md R198: the LOAD completion and its frame. The cells, the counts, the FIFO and FRAME_COUNT are those of the
frame's bytes whether or not AUTO_RUN then starts RUN (R199: "The LOAD stage's own writes stand whether or not RUN starts"). -/
def Obligations.LoadStageEffect : Prop :=
  ∀ s : State, s.Inv → s.status.stage = .load →
    let t := s.engineStep
    (∀ j, j < s.n → some (t.readA j) = s.ingest.fifo[j]? ∧ some (t.readB j) = s.ingest.fifo[s.n + j]?) ∧
    (∀ j, s.n ≤ j → t.readA j = s.readA j ∧ t.readB j = s.readB j) ∧
    (∀ i, t.readRes i = s.readRes i ∧ t.readLut i = s.readLut i) ∧
    t.ingest.fifo = s.ingest.fifo.drop (2 * s.n) ∧
    t.buf.aCount.toNat = s.n ∧ t.buf.bCount.toNat = s.n ∧
    t.ingest.frameCount = s.ingest.frameCount + 1 ∧ t.ingest.resyncCount = s.ingest.resyncCount ∧
    t.status.resValid = false ∧ t.status.peakValid = false ∧ t.status.angleValid = false ∧ t.status.sat = false ∧
    t.status.done = false ∧ t.status.resMode = s.status.resMode ∧
    t.build = s.build ∧ t.env = s.env ∧ t.cfg = s.cfg ∧ t.peak = s.peak ∧ t.angle = s.angle ∧ t.time.cycle = s.time.cycle ∧
    t.time.t1 = s.time.t1 ∧
    (s.cfg.ctrl.getLsbD 4 = false →
      t.status =
        { s.status with
          stage := .idle, resValid := false, peakValid := false, angleValid := false, sat := false, frameRdy := true } ∧
      t.error = s.error ∧ t.time = s.time ∧ t.eng = s.eng)

/-- 43_frame_ingest.md R199: with AUTO_RUN a completed load starts RUN on the loaded frame, or records CFG with information
0xFFFFFFFF and goes idle with the frame kept. -/
def Obligations.AutoRunStartsRun : Prop :=
  ∀ s : State, s.Inv → s.status.stage = .load → s.cfg.ctrl.getLsbD 4 = true →
    (s.geometryValid = true → exec .run (s.loadWrites.setStage .idle) = .next s.engineStep ∧
      s.engineStep.status.stage = .corr ∧ s.engineStep.eng.chain = .run ∧ s.engineStep.status.frameRdy = false) ∧
    (s.geometryValid = false →
      s.engineStep = (s.loadWrites.setStage .idle).recordErr .cfg 0xFFFFFFFF ∧ s.engineStep.status.frameRdy = true)

/-- 40_correlation.md R123, R130; 44_control.md R217: the CORR completion and its frame. -/
def Obligations.CorrStageEffect : Prop :=
  ∀ s : State, s.status.stage = .corr →
    let t := s.engineStep
    (∀ i, i < s.resultLen → t.readRes i = BitVec.ofInt 32 (correlate s.eng.mode s.sampleA s.sampleB s.n i)) ∧
    (∀ i, s.resultLen ≤ i → t.readRes i = s.readRes i) ∧
    (∀ j, t.readA j = s.readA j ∧ t.readB j = s.readB j ∧ t.readLut j = s.readLut j) ∧
    t.time = { s.time with t1 := s.time.cycle } ∧
    (s.eng.chain = .run →
      t.status = { s.status with resValid := true, resMode := s.eng.mode, stage := .peak }) ∧
    (s.eng.chain = .single →
      t.status = { s.status with resValid := true, resMode := s.eng.mode, stage := .idle, done := true }) ∧
    t.build = s.build ∧ t.env = s.env ∧ t.cfg = s.cfg ∧ t.error = s.error ∧ t.buf = s.buf ∧ t.ingest = s.ingest ∧
    t.peak = s.peak ∧ t.angle = s.angle ∧ t.eng = s.eng

/-- 40_correlation.md R124, R126: the cross-correlation and the convolution sum at every output index, and the ranges of `j`
they run over. -/
def Obligations.CorrelationFormulas : Prop :=
  (∀ (n : Nat) (lag j : Int), 0 ≤ j ∧ j ≤ n - 1 ∧ 0 ≤ j + lag ∧ j + lag ≤ n - 1 ↔
    max 0 (-lag) ≤ j ∧ j ≤ min ((n : Int) - 1) (n - 1 - lag)) ∧
  (∀ (a b : Nat → Int) (n i : Nat), 1 ≤ n → i ≤ 2 * n - 2 →
    correlate .cross a b n i =
      ∑ j ∈ (Finset.range n).filter (fun j : Nat =>
          0 ≤ (j : Int) + ((i : Int) - (n - 1)) ∧ (j : Int) + ((i : Int) - (n - 1)) ≤ n - 1),
        a j * b ((j : Int) + ((i : Int) - (n - 1))).toNat) ∧
  (∀ (a b : Nat → Int) (n i : Nat), 1 ≤ n → i ≤ 2 * n - 2 →
    correlate .conv a b n i = ∑ j ∈ (Finset.range n).filter (fun j => j ≤ i ∧ i - j ≤ n - 1), a j * b (i - j))

/-- 40_correlation.md R127: every partial sum of int8 samples lies in [−16646144, 2^24] for N ≤ 1024, and every such integer
is exact in binary32. -/
def Obligations.SumsAreExact : Prop :=
  (∀ (m : Mode) (a b : Nat → Byte) (n i k : Nat), n ≤ 1024 → k ≤ n →
    -16646144 ≤ runningSum (corrTerm m (fun j => (a j).toInt) (fun j => (b j).toInt) n i) k ∧
    runningSum (corrTerm m (fun j => (a j).toInt) (fun j => (b j).toInt) n i) k ≤ 2 ^ 24) ∧
  ∀ v : Int, -(2 ^ 24) ≤ v → v ≤ 2 ^ 24 → F32.isFinite (F32.ofInt v) = true ∧ F32.toRat (F32.ofInt v) = v

/-- 40_correlation.md R128: the products of a result cell summed in any order give the same value. -/
def Obligations.AnyAccumulationOrder : Prop :=
  ∀ (m : Mode) (a b : Nat → Int) (n i : Nat) (js : List Nat), js.Perm (List.range n) →
    (js.map (corrTerm m a b n i)).sum = correlate m a b n i

/-- 40_correlation.md R132: the identities between the modes. -/
def Obligations.ModeIdentities : Prop :=
  ∀ (a b : Nat → Int) (n i : Nat), 1 ≤ n → i ≤ 2 * n - 2 →
    correlate .cross a b n i = correlate .cross b a n (2 * n - 2 - i) ∧
    correlate .conv a b n i = correlate .cross a (fun k => b (n - 1 - k)) n (2 * n - 2 - i)

/-- 40_correlation.md R133: identical nonzero buffers have their cross-correlation's strict maximum magnitude at zero lag,
with value Σ a[j]². -/
def Obligations.AutocorrelationPeaksAtZeroLag : Prop :=
  ∀ (a : Nat → Int) (n : Nat), 1 ≤ n → (∃ j, j < n ∧ a j ≠ 0) →
    correlate .cross a a n (n - 1) = ∑ j ∈ Finset.range n, a j ^ 2 ∧
    ∀ i, i ≤ 2 * n - 2 → i ≠ n - 1 → |correlate .cross a a n i| < correlate .cross a a n (n - 1)

/-- 41_peak.md R142, R144: the signed scan finds the largest value at its first index. -/
def Obligations.SignedScanFindsFirstMaximum : Prop :=
  ∀ (f : Nat → Int) (k : Nat),
    (scanMax f k).2 ≤ k ∧ f (scanMax f k).2 = (scanMax f k).1 ∧
    (∀ i, i ≤ k → f i ≤ (scanMax f k).1) ∧ ∀ i, i < (scanMax f k).2 → f i < (scanMax f k).1

/-- 41_peak.md R143 to R145: the magnitude scan finds the largest magnitude at its first index, and (0, 0) exactly on zeros. -/
def Obligations.MagnitudeScanFindsFirstMaximum : Prop :=
  ∀ (f : Nat → Int) (m : Nat), 1 ≤ m →
    (scanAbs f m).2 < m ∧ (f (scanAbs f m).2).natAbs = (scanAbs f m).1 ∧
    (∀ i, i < m → (f i).natAbs ≤ (scanAbs f m).1) ∧ (∀ i, i < (scanAbs f m).2 → (f i).natAbs < (scanAbs f m).1) ∧
    ((scanAbs f m).1 = 0 ↔ ∀ i, i < m → f i = 0)

/-- 41_peak.md R140, R141; 44_control.md R217: the PEAK completion and its frame. -/
def Obligations.PeakStageEffect : Prop :=
  ∀ s : State, s.Inv → s.status.stage = .peak →
    let t := s.engineStep
    t.peak.maxVal.toInt = (scanMax s.resInt (2 * s.n - 2)).1 ∧ t.peak.maxIdx.toNat = (scanMax s.resInt (2 * s.n - 2)).2 ∧
    t.peak.absVal.toNat = (scanAbs s.resInt (2 * s.n - 1)).1 ∧ t.peak.absIdx.toNat = (scanAbs s.resInt (2 * s.n - 1)).2 ∧
    s.SameRams t ∧
    (s.eng.chain = .run → t.status = { s.status with peakValid := true, stage := .angle }) ∧
    (s.eng.chain = .single → t.status = { s.status with peakValid := true, stage := .idle, done := true }) ∧
    t.build = s.build ∧ t.env = s.env ∧ t.cfg = s.cfg ∧ t.error = s.error ∧ t.buf = s.buf ∧ t.ingest = s.ingest ∧
    t.angle = s.angle ∧ t.time = s.time ∧ t.eng = s.eng

/-- 42_angle.md R164 to R171: the ANGLE completion and its frame. -/
def Obligations.AngleStageEffect : Prop :=
  ∀ s : State, s.Inv → s.status.stage = .angle →
    let t := s.engineStep
    t.angle.idx = (match s.eng.src with
      | .imm => s.eng.imm
      | .peak => if s.eng.sel = false then s.peak.absIdx else s.peak.maxIdx) ∧
    t.angle.lag.toInt = (t.angle.idx.toNat : Int) - ((s.n : Int) - 1) ∧
    -((s.n : Int) - 1) ≤ t.angle.lag.toInt ∧ t.angle.lag.toInt ≤ (s.n : Int) - 1 ∧
    t.angle.tdelay = F32.div (F32.ofInt t.angle.lag.toInt) s.cfg.fs ∧
    t.angle.argRaw = F32.div (F32.mul t.angle.tdelay s.cfg.c) s.cfg.d ∧
    t.angle.argClamp = (clampArg t.angle.argRaw).1 ∧
    (s.eng.amode = false → t.angle.angle = F32.neg (Config.asinDeg.fn t.angle.argClamp)) ∧
    (s.eng.amode = true → t.angle.angle = s.readLut t.angle.idx.toNat) ∧
    t.status = { s.status with sat := (clampArg t.angle.argRaw).2, angleValid := true, stage := .idle, done := true } ∧
    s.SameRams t ∧
    t.build = s.build ∧ t.env = s.env ∧ t.cfg = s.cfg ∧ t.error = s.error ∧ t.buf = s.buf ∧ t.ingest = s.ingest ∧
    t.peak = s.peak ∧ t.time = s.time ∧ t.eng = s.eng

/-- 44_control.md R212: RUN and its three stages leave what CORR (in CTRL.MODE), PEAK and ANGLE leave one after the other,
apart from the latches. -/
def Obligations.RunIsCorrPeakAngle : Prop :=
  ∀ s : State, s.Inv → s.busy = false → s.buffersFull = true → s.geometryValid = true →
    ∃ r c p a : State,
      exec .run s = .next r ∧
      exec (if s.cfg.ctrl.getLsbD 0 = true then .corrC else .corrX) s = .next c ∧
      exec .peak c.engineStep = .next p ∧ exec .angle p.engineStep = .next a ∧
      r.engineStep.engineStep.engineStep.busy = false ∧ r.engineStep.engineStep.engineStep.status.done = true ∧
      { r.engineStep.engineStep.engineStep with eng := a.engineStep.eng } = a.engineStep

/-! The angle arithmetic. -/

/-- 00_scope.md R13, 42_angle.md R165: the magnitude a positive quotient rounds to is a nearest binary32, even on a tie, and
infinity from 2^128 − 2^103 on; `F32.mul` and `F32.div` of finite operands, the divisor not zero, are that rounding of the exact
product and quotient, and `F32.ofInt` that of an integer, each with its sign. IEEE 754 is presumed (notes/assumptions/9.md). -/
def Obligations.RoundsToNearestEven : Prop :=
  (∀ n d : Nat, 0 < n → 0 < d →
    (F32.roundMag n d ≤ F32.infMag) ∧
    (F32.roundMag n d = F32.infMag ↔ ((2 : ℚ) ^ 128 - 2 ^ 103) ≤ (n : ℚ) / d) ∧
    (F32.roundMag n d < F32.infMag → ∀ y : Nat, y < F32.infMag →
      |F32.toRat (F32.withSign false (F32.roundMag n d)) - (n : ℚ) / d| ≤
          |F32.toRat (F32.withSign false y) - (n : ℚ) / d| ∧
        (|F32.toRat (F32.withSign false (F32.roundMag n d)) - (n : ℚ) / d| =
            |F32.toRat (F32.withSign false y) - (n : ℚ) / d| → y = F32.roundMag n d ∨ F32.roundMag n d % 2 = 0))) ∧
  (∀ (x y : Word) (n d : Nat), F32.isFinite x = true → F32.isFinite y = true → 0 < d →
    ((n : ℚ) / d = |F32.toRat x * F32.toRat y| →
      F32.mul x y = F32.withSign (F32.sign x != F32.sign y) (F32.roundMag n d)) ∧
    (F32.toRat y ≠ 0 → (n : ℚ) / d = |F32.toRat x / F32.toRat y| →
      F32.div x y = F32.withSign (F32.sign x != F32.sign y) (F32.roundMag n d))) ∧
  (∀ d : Nat, F32.roundMag 0 d = 0) ∧
  ∀ k : Int, F32.ofInt k = F32.withSign (decide (k < 0)) (F32.roundMag k.natAbs 1)

/-- 42_angle.md R172: with a valid geometry no NaN arises, whatever the lag; an infinity or a zero, multiplied or divided by a
positive finite number, is kept with its sign. -/
def Obligations.ValidGeometryGivesNoNaN : Prop :=
  (∀ (lag : Int) (fs c d : Word), positiveFinite fs = true → positiveFinite c = true → positiveFinite d = true →
    F32.isNan (delayOf lag fs) = false ∧ F32.isNan (F32.mul (delayOf lag fs) c) = false ∧
    F32.isNan (argOf (delayOf lag fs) c d) = false) ∧
  ∀ x y : Word, F32.isInf x = true ∨ F32.isZero x = true → positiveFinite y = true → F32.mul x y = x ∧ F32.div x y = x

/-- 42_angle.md R166: the clamp, on every argument that is no NaN, by the IEEE ordered comparison: that of the exact values of
finite patterns, the infinities outermost, a NaN in no order. IEEE 754 is presumed (notes/assumptions/9.md). -/
def Obligations.ClampIntoUnitRange : Prop :=
  (∀ arg : Word, F32.isNan arg = false →
    F32.UnitRange (clampArg arg).1 ∧
    ((clampArg arg).2 = true ↔ F32.lt F32.one arg = true ∨ F32.lt arg F32.negOne = true) ∧
    ((clampArg arg).2 = false → (clampArg arg).1 = arg) ∧
    (F32.lt F32.one arg = true → (clampArg arg).1 = 0x3F800000) ∧
    (F32.lt arg F32.negOne = true → (clampArg arg).1 = 0xBF800000)) ∧
  F32.toRat F32.one = 1 ∧ F32.toRat F32.negOne = -1 ∧
  (∀ x y : Word, F32.isFinite x = true → F32.isFinite y = true →
    (F32.lt x y = true ↔ F32.toRat x < F32.toRat y) ∧ (F32.le x y = true ↔ F32.toRat x ≤ F32.toRat y)) ∧
  (∀ x : Word, F32.isFinite x = true →
    F32.lt 0xFF800000 x = true ∧ F32.lt x 0x7F800000 = true ∧ F32.le 0x7F800000 x = false ∧ F32.le x 0xFF800000 = false) ∧
  F32.lt 0xFF800000 0x7F800000 = true ∧ F32.le 0x7F800000 0xFF800000 = false ∧
  (∀ x : Word, F32.isNan x = false → F32.lt x x = false ∧ F32.le x x = true) ∧
  ∀ x y : Word, F32.isNan x = true ∨ F32.isNan y = true → F32.lt x y = false ∧ F32.le x y = false

/-- 42_angle.md R173: zero lag. -/
def Obligations.ZeroLagGivesNegativeZero : Prop :=
  ∀ s : State, s.status.stage = .angle → s.geometryValid = true → s.lagOf s.angleIndex.toNat = 0 →
    let t := s.engineStep
    t.angle.lag = 0 ∧ t.angle.tdelay = 0 ∧ t.angle.argRaw = 0 ∧ t.angle.argClamp = 0 ∧ t.status.sat = false ∧
    (s.eng.amode = false → t.angle.angle = 0x80000000)

/-- 42_angle.md R174: a saturated DIRECT angle is exactly ∓90. -/
def Obligations.SaturatedAngleIsNinety : Prop :=
  ∀ s : State, s.status.stage = .angle → s.eng.amode = false →
    let t := s.engineStep
    (t.status.sat = true ↔ F32.lt F32.one t.angle.argRaw = true ∨ F32.lt t.angle.argRaw F32.negOne = true) ∧
    (t.status.sat = true →
      (F32.lt 0 t.angle.argRaw = true → t.angle.angle = 0xC2B40000) ∧
      (F32.lt t.angle.argRaw 0 = true → t.angle.angle = 0x42B40000) ∧
      (F32.lt 0 t.angle.argRaw = true ∨ F32.lt t.angle.argRaw 0 = true))

/-- 42_angle.md R168: a positive lag gives a bearing that is not positive, in DIRECT mode. -/
def Obligations.PositiveLagNegativeBearing : Prop :=
  ∀ s : State, s.status.stage = .angle → s.geometryValid = true → s.eng.amode = false →
    0 < s.lagOf s.angleIndex.toNat →
    F32.le 0 s.engineStep.angle.argClamp = true ∧ F32.le s.engineStep.angle.angle 0 = true

/-- 95_test_vectors.md V-A11, from 42_angle.md R165 to R170: the opposite lag gives the opposite delay, argument, clamped argument
and DIRECT bearing. -/
def Obligations.OppositeLagOppositeBearing : Prop :=
  ∀ (lag : Int) (fs c d : Word), lag ≠ 0 → positiveFinite fs = true → positiveFinite c = true → positiveFinite d = true →
    let arg (k : Int) := argOf (delayOf k fs) c d
    delayOf (-lag) fs = F32.neg (delayOf lag fs) ∧ arg (-lag) = F32.neg (arg lag) ∧
    (clampArg (arg (-lag))).1 = F32.neg (clampArg (arg lag)).1 ∧ (clampArg (arg (-lag))).2 = (clampArg (arg lag)).2 ∧
    Config.asinDeg.fn (clampArg (arg (-lag))).1 = F32.neg (Config.asinDeg.fn (clampArg (arg lag)).1)

/-- 42_angle.md R175: the source's worked scenario, from the reset state. -/
def Obligations.WorkedAngleScenario : Prop :=
  ∃ t, exec (.angleI 124) State.reset = .next t ∧
    let u := t.engineStep
    u.angle.idx = 124 ∧ u.angle.lag.toInt = -125 ∧ u.angle.tdelay = 0xBA03126F ∧ u.angle.argRaw = 0xC05B8520 ∧
    u.angle.argClamp = 0xBF800000 ∧ u.status.sat = true ∧ u.angle.angle = 0x42B40000 ∧ u.statusWord = 0x00000190

/-! Ingest. -/

/-- 43_frame_ingest.md R194, R195, R197: the deframer steps exactly behind its gate; a mismatch discards one byte, a match
consumes the header and enters LOAD. -/
def Obligations.DeframerStepEffect : Prop :=
  ∀ s : State,
    let gate := s.cfg.ctrl.getLsbD 3 = true ∧ s.status.stage = .idle ∧ s.status.done = false ∧ s.status.frameRdy = false ∧
      2 + 2 * s.n ≤ s.ingest.fifo.length
    (¬gate → s.deframerStep = s) ∧
    (gate → ∀ b0 b1 rest, s.ingest.fifo = b0 :: b1 :: rest →
      (¬(b0 = 0xFF ∧ b1 = 0xFF) →
        s.deframerStep =
          { s with ingest := { s.ingest with fifo := b1 :: rest, resyncCount := s.ingest.resyncCount + 1 } }) ∧
      (b0 = 0xFF ∧ b1 = 0xFF →
        s.deframerStep =
          { s with ingest := { s.ingest with fifo := rest }, status := { s.status with stage := .load } }))

/-- 43_frame_ingest.md R200: junk before a frame is discarded one byte a step, then the header is taken. -/
def Obligations.ResynchronisesOnFrame : Prop :=
  ∀ (s : State) (junk payload : List Byte),
    s.ingest.fifo = junk ++ 0xFF :: 0xFF :: payload → 2 * s.n ≤ payload.length →
    (∀ k, k < junk.length → ¬(s.ingest.fifo[k]? = some 0xFF ∧ s.ingest.fifo[k + 1]? = some 0xFF)) →
    s.cfg.ctrl.getLsbD 3 = true → s.status.stage = .idle → s.status.done = false → s.status.frameRdy = false →
    State.deframerStep^[junk.length] s =
        { s with
          ingest :=
            { s.ingest with
              fifo := 0xFF :: 0xFF :: payload
              resyncCount := s.ingest.resyncCount + BitVec.ofNat 32 junk.length } } ∧
      (State.deframerStep^[junk.length + 1] s).status.stage = .load ∧
      (State.deframerStep^[junk.length + 1] s).ingest.fifo = payload

/-- 43_frame_ingest.md R190, R191: the stream port appends a byte while the FIFO has room, otherwise the source waits and no
byte is lost; a STREAM_IN write, also while BUSY, appends its low byte or is dropped with FIFO_OVF. -/
def Obligations.StreamPortAndStreamIn : Prop :=
  (∀ s : State,
    s.streamStep.ingest.fifo ++ s.streamStep.env.streamSource = s.ingest.fifo ++ s.env.streamSource ∧
    (s.build.fifoDepth ≤ s.ingest.fifo.length → s.streamStep = s) ∧
    (s.ingest.fifo.length < s.build.fifoDepth → ∀ b rest, s.env.streamSource = b :: rest →
      s.streamStep =
        { s with env := { s.env with streamSource := rest }, ingest := { s.ingest with fifo := s.ingest.fifo ++ [b] } })) ∧
  (∀ (s : State) (v : Word),
    (s.build.fifoDepth ≤ s.ingest.fifo.length →
      s.busWrite 0x044 v 0b1111 = .next ((s.recordErr .fifoOvf 0x044).respond (.write false))) ∧
    (s.ingest.fifo.length < s.build.fifoDepth →
      s.busWrite 0x044 v 0b1111 =
        .next ({ s with ingest := { s.ingest with fifo := s.ingest.fifo ++ [v.extractLsb' 0 8] } }.respond (.write false))))

/-- 43_frame_ingest.md R202: a write to A_PUSH or B_PUSH while idle appends a sample and invalidates the results, or is
dropped with BUF_OVF; every other cell reads as before. While BUSY it is refused. -/
def Obligations.PushWrites : Prop :=
  (∀ (s : State) (v : Word), s.busy = true →
    s.busWrite 0x03C v 0b1111 = .next ((s.recordErr .busyAccess 0x03C).respond (.write true)) ∧
    s.busWrite 0x040 v 0b1111 = .next ((s.recordErr .busyAccess 0x040).respond (.write true))) ∧
  ∀ (s : State) (v : Word), s.busy = false →
    (s.buf.aCount.toNat = s.n → s.busWrite 0x03C v 0b1111 = .next ((s.recordErr .bufOvf 0x03C).respond (.write false))) ∧
    (s.buf.bCount.toNat = s.n → s.busWrite 0x040 v 0b1111 = .next ((s.recordErr .bufOvf 0x040).respond (.write false))) ∧
    (s.buf.aCount.toNat ≠ s.n → ∃ t, s.busWrite 0x03C v 0b1111 = .next t ∧
      t = { s with
            env := { s.env with resp := .write false }
            ramA := t.ramA
            buf := { s.buf with aCount := s.buf.aCount + 1 }
            status := { s.status with resValid := false, peakValid := false, angleValid := false } } ∧
      t.readA s.buf.aCount.toNat = v.extractLsb' 0 8 ∧ ∀ j, j ≠ s.buf.aCount.toNat → t.readA j = s.readA j) ∧
    (s.buf.bCount.toNat ≠ s.n → ∃ t, s.busWrite 0x040 v 0b1111 = .next t ∧
      t = { s with
            env := { s.env with resp := .write false }
            ramB := t.ramB
            buf := { s.buf with bCount := s.buf.bCount + 1 }
            status := { s.status with resValid := false, peakValid := false, angleValid := false } } ∧
      t.readB s.buf.bCount.toNat = v.extractLsb' 0 8 ∧ ∀ j, j ≠ s.buf.bCount.toNat → t.readB j = s.readB j)

/-! The bus. -/

/-- 20_memory.md R72: the windows and the holes of the address map, for every build. -/
def Obligations.AddressMap : Prop :=
  ∀ b : Config.Build, b.wellFormed = true →
    (∀ i, i < b.nMax → targetAt b (BitVec.ofNat 15 (0x1000 + 4 * i)) = some (.sampleA i) ∧
      targetAt b (BitVec.ofNat 15 (0x2000 + 4 * i)) = some (.sampleB i)) ∧
    (∀ i, i < 2 * b.nMax - 1 → targetAt b (BitVec.ofNat 15 (0x4000 + 4 * i)) = some (.result i) ∧
      targetAt b (BitVec.ofNat 15 (0x6000 + 4 * i)) = some (.lut i)) ∧
    (∀ r : Reg, targetAt b (BitVec.ofNat 15 r.offset) = some (.reg r)) ∧
    (∀ o : Offset, 0x088 ≤ o.toNat → o.toNat < 0x1000 → targetAt b o = none) ∧
    (∀ o : Offset, 0x3000 ≤ o.toNat → o.toNat < 0x4000 → targetAt b o = none) ∧
    (∀ o : Offset, 0x1000 + 4 * b.nMax ≤ o.toNat → o.toNat < 0x2000 → targetAt b o = none) ∧
    (∀ o : Offset, 0x2000 + 4 * b.nMax ≤ o.toNat → o.toNat < 0x3000 → targetAt b o = none) ∧
    (∀ o : Offset, 0x4000 + 4 * (2 * b.nMax - 1) ≤ o.toNat → o.toNat < 0x6000 → targetAt b o = none) ∧
    (∀ o : Offset, 0x6000 + 4 * (2 * b.nMax - 1) ≤ o.toNat → targetAt b o = none)

/-- 20_memory.md R74 to R79: misaligned, partial, unmapped and wrong-kind accesses are refused with BUS before BUSY is looked
at; a refused access answers ERR (a read with data 0), records the offset and changes nothing else. -/
def Obligations.RefusedAccesses : Prop :=
  (∀ (s : State) (o : Offset) (k : AccessKind), o.toNat % 4 ≠ 0 → busCheck s o k = .error .bus) ∧
  (∀ (s : State) (o : Offset) (be : BitVec 4), be ≠ 0b1111 → busCheck s o (.write be) = .error .bus) ∧
  (∀ (s : State) (o : Offset) (k : AccessKind), targetAt s.build o = none → busCheck s o k = .error .bus) ∧
  (∀ (s : State) (o : Offset) (be : BitVec 4), o ∈ [0x000, 0x004, 0x00C, 0x018, 0x01C, 0x034, 0x038, 0x048, 0x04C, 0x050,
      0x054, 0x058, 0x05C, 0x060, 0x064, 0x068, 0x06C, 0x070, 0x074, 0x078, 0x07C, 0x080, 0x084] →
    busCheck s o (.write be) = .error .bus) ∧
  (∀ (s : State) (o : Offset) (be : BitVec 4), 0x1000 ≤ o.toNat → o.toNat < 0x6000 → busCheck s o (.write be) = .error .bus) ∧
  (∀ (s : State) (o : Offset), o ∈ [0x010, 0x03C, 0x040, 0x044] → busCheck s o .read = .error .bus) ∧
  (∀ (s : State) (o : Offset) (c : Cause), busCheck s o .read = .error c →
    s.busRead o =
      { s with env := { s.env with resp := .read true 0 }, error := (s.recordErr c (o.setWidth 32)).error }) ∧
  (∀ (s : State) (o : Offset) (v : Word) (be : BitVec 4) (c : Cause), busCheck s o (.write be) = .error c →
    s.busWrite o v be = .next
      { s with env := { s.env with resp := .write true }, error := (s.recordErr c (o.setWidth 32)).error })

/-- 20_memory.md R83: what BUSY refuses and what is always allowed. -/
def Obligations.BusyAccessTable : Prop :=
  ∀ s : State, s.busy = true →
    (∀ o : Offset, o ∈ [0x008, 0x024, 0x028, 0x02C, 0x030, 0x03C, 0x040] →
      busCheck s o (.write 0b1111) = .error .busyAccess) ∧
    (∀ o : Offset, o ∈ [0x034, 0x038, 0x048, 0x04C, 0x050, 0x054, 0x058, 0x05C, 0x060, 0x064, 0x068, 0x06C, 0x070, 0x074,
      0x078, 0x080, 0x084] → busCheck s o .read = .error .busyAccess) ∧
    (∀ (o : Offset) (t : Target), 0x1000 ≤ o.toNat → o.toNat % 4 = 0 → targetAt s.build o = some t →
      busCheck s o .read = .error .busyAccess ∧ (0x6000 ≤ o.toNat → busCheck s o (.write 0b1111) = .error .busyAccess)) ∧
    (∀ o : Offset, o ∈ [0x000, 0x004, 0x008, 0x00C, 0x014, 0x018, 0x01C, 0x020, 0x024, 0x028, 0x02C, 0x030, 0x07C] →
      ∃ t, busCheck s o .read = .ok t) ∧
    (∀ o : Offset, o ∈ [0x010, 0x014, 0x020, 0x044] → ∃ t, busCheck s o (.write 0b1111) = .ok t)

/-- The registers that can always be read (20_memory.md R83), PARAMS and STATUS apart, and their words (10_state.md R22, R24,
R27 to R31, R40), reserved bits 0. -/
def Sys2Proof.openReads (s : State) : List (Offset × Word) :=
  [(0x000, 0x444F4131), (0x008, 0#27 ++ s.cfg.ctrl), (0x014, 0#22 ++ s.error.err), (0x018, 0#28 ++ s.error.cause),
    (0x01C, s.error.info), (0x020, 0#29 ++ s.cfg.irqEn), (0x024, s.cfg.n), (0x028, s.cfg.fs), (0x02C, s.cfg.c),
    (0x030, s.cfg.d), (0x07C, s.time.cycle)]

/-- The registers that can be read while idle only (20_memory.md R83), STREAM_LEVEL apart, and their words (10_state.md R32, R34 to
R40), reserved bits 0. -/
def Sys2Proof.idleReads (s : State) : List (Offset × Word) :=
  [(0x034, 0#21 ++ s.buf.aCount), (0x038, 0#21 ++ s.buf.bCount), (0x04C, s.ingest.frameCount),
    (0x050, s.ingest.resyncCount), (0x054, s.peak.maxVal), (0x058, 0#21 ++ s.peak.maxIdx), (0x05C, s.peak.absVal),
    (0x060, 0#21 ++ s.peak.absIdx), (0x064, 0#21 ++ s.angle.idx), (0x068, s.angle.lag), (0x06C, s.angle.tdelay),
    (0x070, s.angle.argRaw), (0x074, s.angle.argClamp), (0x078, s.angle.angle), (0x080, s.time.t0), (0x084, s.time.t1)]

/-- 20_memory.md R80, R81; 10_state.md R22 to R40: the word each register and window cell reads as, whatever the build, and that
an accepted read changes nothing but the response and, read again, answers the same. -/
def Obligations.ReadsHaveNoSideEffect : Prop :=
  (∀ (s : State) (o : Offset) (t : Target), busCheck s o .read = .ok t →
    (∃ v, s.busRead o = { s with env := { s.env with resp := .read false v } }) ∧ (s.busRead o).busRead o = s.busRead o) ∧
  ∀ s : State,
    let answers (o : Offset) (v : Word) : Prop := s.busRead o = { s with env := { s.env with resp := .read false v } }
    (∀ p ∈ openReads s, answers p.1 p.2) ∧ answers 0x00C s.statusWord ∧
    (s.build.wellFormed = true → ∃ v, answers 0x004 v ∧ (v.extractLsb' 0 11).toNat = s.build.nMax ∧
      v.extractLsb' 11 5 = 0 ∧ (v.extractLsb' 16 16).toNat = s.build.fifoDepth) ∧
    (s.busy = false →
      (∀ p ∈ idleReads s, answers p.1 p.2) ∧
      (s.Inv → ∃ v, answers 0x048 v ∧ v.toNat = s.ingest.fifo.length ∧ v.extractLsb' 16 16 = 0) ∧
      (s.build.wellFormed = true → ∀ i, i < s.build.nMax →
        (∃ v, answers (BitVec.ofNat 15 (0x1000 + 4 * i)) v ∧ v.toInt = (s.readA i).toInt) ∧
        (∃ v, answers (BitVec.ofNat 15 (0x2000 + 4 * i)) v ∧ v.toInt = (s.readB i).toInt)) ∧
      (s.build.wellFormed = true → ∀ i, i < 2 * s.build.nMax - 1 →
        answers (BitVec.ofNat 15 (0x4000 + 4 * i)) (s.readRes i) ∧
        answers (BitVec.ofNat 15 (0x6000 + 4 * i)) (s.readLut i)))

/-- 10_state.md R21, R24, R29, R31; 20_memory.md R80: a read-write register reads back what was written, reserved bits as 0,
IRQ_EN also while BUSY, and a LUT cell the pattern; each write changes nothing else. -/
def Obligations.WrittenRegistersReadBack : Prop :=
  (∀ (s : State) (v : Word), ∃ t, s.busWrite 0x020 v 0b1111 = .next t ∧
    (t.busRead 0x020).env.resp = .read false (v &&& 0x7) ∧
    t = { s with env := { s.env with resp := .write false }, cfg := { s.cfg with irqEn := v.extractLsb' 0 3 } }) ∧
  ∀ (s : State) (v : Word), s.busy = false →
    let after (c : Cfg) : State := { s with env := { s.env with resp := .write false }, cfg := c }
    (s.busWrite 0x008 v 0b1111 = .next (after { s.cfg with ctrl := v.extractLsb' 0 5 }) ∧
      ((after { s.cfg with ctrl := v.extractLsb' 0 5 }).busRead 0x008).env.resp = .read false (v &&& 0x1F)) ∧
    (s.busWrite 0x028 v 0b1111 = .next (after { s.cfg with fs := v }) ∧
      ((after { s.cfg with fs := v }).busRead 0x028).env.resp = .read false v) ∧
    (s.busWrite 0x02C v 0b1111 = .next (after { s.cfg with c := v }) ∧
      ((after { s.cfg with c := v }).busRead 0x02C).env.resp = .read false v) ∧
    (s.busWrite 0x030 v 0b1111 = .next (after { s.cfg with d := v }) ∧
      ((after { s.cfg with d := v }).busRead 0x030).env.resp = .read false v) ∧
    ∀ i, s.build.wellFormed = true → i < 2 * s.build.nMax - 1 →
      ∃ t, s.busWrite (BitVec.ofNat 15 (0x6000 + 4 * i)) v 0b1111 = .next t ∧
        (t.busRead (BitVec.ofNat 15 (0x6000 + 4 * i))).env.resp = .read false v ∧
        (∀ j, j ≠ i → t.readLut j = s.readLut j) ∧
        t = { s with env := { s.env with resp := .write false }, lut := t.lut }

/-- 10_state.md R30: a write of CFG_N. -/
def Obligations.CfgNWrite : Prop :=
  ∀ (s : State) (v : Word),
    (s.busy = true → ∃ t, s.busWrite 0x024 v 0b1111 = .next t ∧
      t = (s.recordErr .busyAccess 0x024).respond (.write true)) ∧
    (s.busy = false → (v.toNat < 1 ∨ s.build.nMax < v.toNat) →
      s.busWrite 0x024 v 0b1111 = .next ((s.recordErr .cfg 0x024).respond (.write false))) ∧
    (s.busy = false → 1 ≤ v.toNat → v.toNat ≤ s.build.nMax →
      s.busWrite 0x024 v 0b1111 = .next
        { s with
          env := { s.env with resp := .write false }
          cfg := { s.cfg with n := v }
          buf := { aCount := 0, bCount := 0 }
          status :=
            { s.status with resValid := false, peakValid := false, angleValid := false, frameRdy := false } })

/-! Errors, status, interrupt. -/

/-- 60_exceptions.md R230, R234, R237; 10_state.md R27: the code of each cause; what recording an error does, and that it does nothing else; a write to ERR,
also while BUSY, clears exactly the bits written 1 and keeps ERR_CAUSE and ERR_INFO. -/
def Obligations.ErrorRecordRules : Prop :=
  (Cause.illegalCmd.code = 1 ∧ Cause.cmdBusy.code = 2 ∧ Cause.length.code = 3 ∧ Cause.noResult.code = 4 ∧ Cause.cfg.code = 5 ∧
    Cause.index.code = 6 ∧ Cause.bufOvf.code = 7 ∧ Cause.fifoOvf.code = 8 ∧ Cause.bus.code = 9 ∧
    Cause.busyAccess.code = 10) ∧
  (∀ (s : State) (c : Cause) (info : Word),
    (∀ k, k < 10 → (s.recordErr c info).error.err.getLsbD k = (s.error.err.getLsbD k || k + 1 == c.code.toNat)) ∧
    (s.error.err = 0 → (s.recordErr c info).error.cause = c.code ∧ (s.recordErr c info).error.info = info) ∧
    (s.error.err ≠ 0 → (s.recordErr c info).error.cause = s.error.cause ∧ (s.recordErr c info).error.info = s.error.info) ∧
    s.recordErr c info = { s with error := (s.recordErr c info).error } ∧ (s.recordErr c info).errAny = true) ∧
  (∀ (s : State) (w : Word), ∃ t, s.busWrite 0x014 w 0b1111 = .next t ∧
    (∀ k, k < 10 → t.error.err.getLsbD k = (s.error.err.getLsbD k && !w.getLsbD k)) ∧
    t.error.cause = s.error.cause ∧ t.error.info = s.error.info ∧
    t = { s with env := { s.env with resp := .write false }, error := t.error })

/-- 10_state.md R25: every field of the word STATUS reads as. -/
def Obligations.StatusWordFields : Prop :=
  ∀ s : State,
    s.statusWord.getLsbD 0 = decide (s.status.stage ≠ .idle) ∧
    s.statusWord.extractLsb' 1 3 = (match s.status.stage with
      | .idle => 0 | .load => 1 | .corr => 2 | .peak => 3 | .angle => 4) ∧
    s.statusWord.getLsbD 4 = s.status.done ∧ s.statusWord.getLsbD 5 = s.status.resValid ∧
    s.statusWord.getLsbD 6 = s.status.peakValid ∧ s.statusWord.getLsbD 7 = s.status.angleValid ∧
    s.statusWord.getLsbD 8 = s.status.sat ∧ s.statusWord.getLsbD 9 = s.status.frameRdy ∧
    s.statusWord.getLsbD 10 = decide (s.error.err ≠ 0) ∧ s.statusWord.getLsbD 11 = s.irq ∧
    s.statusWord.getLsbD 12 = decide (s.status.resMode = .conv) ∧ s.statusWord.extractLsb' 13 19 = 0

/-- 60_exceptions.md R240: the interrupt level, and that its causes or enables being clear make it fall. -/
def Obligations.InterruptLevel : Prop :=
  ∀ s : State,
    (s.irq = true ↔
      (s.status.done = true ∧ s.cfg.irqEn.getLsbD 0 = true) ∨ (s.error.err ≠ 0 ∧ s.cfg.irqEn.getLsbD 1 = true) ∨
        (s.status.frameRdy = true ∧ s.cfg.irqEn.getLsbD 2 = true)) ∧
    s.statusWord.getLsbD 11 = s.irq ∧ State.reset.irq = false

/-! Resets. -/

/-- 10_state.md R22 to R40 (the reset column), 70_reset_and_hazards.md R260, R261: what hardware reset leaves, for every build,
driving `rst_n` low and releasing it does it, and what State.reset reads. That it is done at both is the model's choice
(notes/assumptions/11.md). -/
def Obligations.HardwareResetState : Prop :=
  (∀ (s : State) (level : Bool), s.build.wellFormed = true →
    let t := s.hardReset level
    t.build = s.build ∧ t.status.stage = .idle ∧ t.statusWord = 0 ∧ t.irq = false ∧ t.ingest.fifo = [] ∧
    t.readReg .id = 0x444F4131 ∧ t.readReg .ctrl = 0 ∧ t.readReg .err = 0 ∧ t.readReg .errCause = 0 ∧
    t.readReg .errInfo = 0 ∧ t.readReg .irqEn = 0 ∧ (t.readReg .cfgN).toNat = s.build.nReset ∧
    t.readReg .cfgFs = 0x48742400 ∧ t.readReg .cfgC = 0x43AB8000 ∧ t.readReg .cfgD = 0x3D4CCCCD ∧
    (∀ r ∈ [Reg.aCount, .bCount, .streamLevel, .frameCount, .resyncCount, .peakMaxVal, .peakMaxIdx, .peakAbsVal, .peakAbsIdx,
      .angleIdx, .lag, .tdelay, .argRaw, .argClamp, .angle, .cycle, .corrT0, .corrT1], t.readReg r = 0) ∧
    (∀ j, Ram.find t.ramA j = none ∧ Ram.find t.ramB j = none ∧ Ram.find t.res j = none ∧ Ram.find t.lut j = none)) ∧
  (∀ (s : State) (rest : List HostAction), s.turnOf = .host →
    (s.env.rstN = true → s.env.hostProgram = .assertReset :: rest →
      step s = .next ((s.atTurn.programLeft rest).hardReset false)) ∧
    (s.env.rstN = false → s.env.hostProgram = .releaseReset :: rest →
      step s = .next ((s.atTurn.programLeft rest).hardReset true))) ∧
  State.reset.readReg .cfgN = 250 ∧ State.reset.readReg .params = 0x10000400

/-! The step. -/

/-- 00_scope.md R6; 44_control.md R211; 20_memory.md R88: a step with `rst_n` high is the turn of the agent that moves, from the
state at its turn: the engine's, the deframer's, the stream source's, or the host's next access (a round of a polling loop reads
STATUS, 30_encoding.md R108). When that access writes a command's word to CMD, the step is `exec` of that command, the action used
up and answered OK; `withFetchWord` places a word so. Whose turn it is, what passes before it, an agent with no step, a loop as one
action and how a word is placed are the model's choice (notes/assumptions/1.md, 5.md, 12.md, 15.md, 2.md, 21.md). -/
def Obligations.StepRunsTheCommandWritten : Prop :=
  (∀ (s : State) (w : Word) (i : Instr) (rest : List HostAction),
    s.turnOf = .host → s.env.rstN = true → s.env.hostProgram = .write 0x010 w 0b1111 :: rest → decode w = .ok i →
      step s = exec i ((s.atTurn.programLeft rest).respond (.write false))) ∧
  (∀ (s : State) (w : Word) (i : Instr), decode w = .ok i →
    step (s.withFetchWord 32 w.toNat) =
      exec i { s.tick with env := { s.tick.env with rstN := true, resp := .write false } }) ∧
  (∀ s : State, s.env.rstN = true →
    (s.turnOf = .engine → step s = .next s.atTurn.engineStep) ∧
    (s.turnOf = .deframer → step s = .next s.atTurn.deframerStep) ∧
    (s.turnOf = .stream → step s = .next s.atTurn.streamStep) ∧
    (s.turnOf = .host →
      (s.env.hostProgram = [] → step s = .next s.atTurn) ∧
      ∀ rest,
        (∀ o, s.env.hostProgram = .read o :: rest → step s = .next ((s.atTurn.programLeft rest).busRead o)) ∧
        (∀ o v be, s.env.hostProgram = .write o v be :: rest → step s = (s.atTurn.programLeft rest).busWrite o v be) ∧
        (∀ k level, s.env.hostProgram = .poll k level :: rest →
          let t := s.atTurn.respond (.read false s.statusWord)
          step s = .next (if s.statusWord.getLsbD k = level then t.programLeft rest else t)))) ∧
  ∀ s : State,
    (∀ g rest, s.env.schedule = g :: rest → s.turnOf = g) ∧
    s.atTurn =
      { s with
        env := { s.env with draws := s.env.draws + 1, schedule := s.env.schedule.tail }
        time := { s.time with cycle := Config.cycleDraw s.env.draws } }

/-- 70_reset_and_hazards.md R260; 20_memory.md R90: with `rst_n` high every step gives a next state; with it low the block's
agents and the stream port change nothing, the host may drive the pin (low changes nothing, high is the reset again) or have no
action left, and an access of the host has no move: nothing else stops. Four things in it are the
model's choice: that no step stops at an unwritten RAM cell, where 10_state.md R47 and 60_exceptions.md R232 name a model FAULT and
R47 also admits a drawn value (notes/assumptions/4.md); that in reset a turn of an agent that has no step, and of a host with no
action left, is a step, which passes with CYCLE drawn (notes/assumptions/12.md, 5.md); that an access in reset is the fault
`accessDuringReset` (notes/assumptions/10.md); that the pin's release resets again (notes/assumptions/11.md). -/
def Obligations.OnlyAccessesInResetStop : Prop :=
  (∀ s : State, s.env.rstN = true → s.RunsOn) ∧
  (∀ s : State, s.env.rstN = false → s.turnOf ≠ .host → step s = .next s.atTurn) ∧
  (∀ s : State, s.env.rstN = false → s.turnOf = .host →
    (s.env.hostProgram = [] → step s = .next s.atTurn) ∧
    ∀ (a : HostAction) (rest : List HostAction), s.env.hostProgram = a :: rest →
      (a = .assertReset → step s = .next (s.atTurn.programLeft rest)) ∧
      (a = .releaseReset → step s = .next ((s.atTurn.programLeft rest).hardReset true)) ∧
      (a ≠ .assertReset → a ≠ .releaseReset → step s = .fault .accessDuringReset))

/-- 44_control.md R216 to R218: an engine step takes a running stage on and never back, and with nothing scheduled a busy
block is idle within four steps. The order with nothing scheduled is the model's choice (notes/assumptions/1.md). -/
def Obligations.StagesComplete : Prop :=
  (∀ s : State, s.busy = true → s.engineStep.status.stage.rank < s.status.stage.rank) ∧
  ∀ s : State, s.env.rstN = true → s.env.schedule = [] → s.busy = true →
    ∃ k t, k ≤ 4 ∧ Host.Core.run core k s = .next t ∧ t.busy = false

/-- 20_memory.md R83, R88; 44_control.md R218: while BUSY no step but the engine's and a hardware reset changes what the stage
works on (the bytes at the FIFO's head among it, 43_frame_ingest.md R197), its results, or the status. -/
def Obligations.BusyFreezesOperands : Prop :=
  ∀ s t : State, s.env.rstN = true → s.busy = true → s.turnOf ≠ .engine →
    (s.turnOf = .host → ∀ a rest, s.env.hostProgram = a :: rest → a ≠ .assertReset) →
    step s = .next t → s.SameOperands t

/-- 10_state.md R32, R46; 44_control.md R220: every step keeps the machine's invariant, from every state that has it. -/
def Obligations.StepKeepsInv : Prop := ∀ s t : State, s.Inv → step s = .next t → t.Inv

/-- 10_state.md R32, R43; 44_control.md R220: the invariants hold after reset, for every legal build and outside world. -/
def Obligations.InvAfterReset : Prop :=
  State.reset.Inv ∧
    ∀ (b : Config.Build) (e : Env), b.wellFormed = true →
      (State.initial b e).Inv ∧ (State.initial b e).ResultsCurrent ∧ (State.initial b e).PeaksCurrent

/-- 10_state.md R43: every step keeps the result RAM the correlation of the full buffers while RES_VALID is 1. -/
def Obligations.StepKeepsResultsCurrent : Prop :=
  ∀ s t : State, s.Inv → s.ResultsCurrent → step s = .next t → t.ResultsCurrent

/-- 10_state.md R25 (PEAK_VALID): every step keeps the peak registers the peak of the result RAM while PEAK_VALID is 1. -/
def Obligations.StepKeepsPeaksCurrent : Prop :=
  ∀ s t : State, s.Inv → s.PeaksCurrent → step s = .next t → t.PeaksCurrent

/-- 43_frame_ingest.md R204; 10_state.md R41, R42: A and B change only by a push or a completing LOAD, RES only by a
completing CORR stage, short of a hardware reset. -/
def Obligations.WhoWritesTheRams : Prop :=
  ∀ s t : State, step s = .next t →
    (s.turnOf = .host → ∀ a rest, s.env.hostProgram = a :: rest → a ≠ .assertReset ∧ a ≠ .releaseReset) →
    (¬(s.turnOf = .engine ∧ s.status.stage = .load) →
      (s.turnOf = .host → ∀ v rest, s.env.hostProgram ≠ .write 0x03C v 0b1111 :: rest) → ∀ j, t.readA j = s.readA j) ∧
    (¬(s.turnOf = .engine ∧ s.status.stage = .load) →
      (s.turnOf = .host → ∀ v rest, s.env.hostProgram ≠ .write 0x040 v 0b1111 :: rest) → ∀ j, t.readB j = s.readB j) ∧
    (¬(s.turnOf = .engine ∧ s.status.stage = .corr) → ∀ i, t.readRes i = s.readRes i)

/-- 30_encoding.md R106, R108: the words of the host's lines; a round of `wait` reads STATUS and the loop ends exactly when
BUSY is 0. A loop as one action of the host is the model's choice (notes/assumptions/15.md). -/
def Obligations.HostLinesAndWait : Prop :=
  (∀ i : Instr, HostLine.expand (.cmd i) = [.write 0x010 (encode i) 0b1111]) ∧
  (∀ k : Nat, k < 65536 → encode (.angleI k) = BitVec.ofNat 32 k <<< 16 ||| 0x13) ∧
  (∀ v : Int, -128 ≤ v → v ≤ 127 →
    ∃ w, HostLine.expand (.pushA v) = [.write 0x03C w 0b1111] ∧ HostLine.expand (.pushB v) = [.write 0x040 w 0b1111] ∧
      HostLine.expand (.byte v) = [.write 0x044 w 0b1111] ∧ w.toNat < 256 ∧ (w.extractLsb' 0 8).toInt = v) ∧
  HostLine.expand .clrerr = [.write 0x014 0x000003FF 0b1111] ∧
  (∀ (s : State) (rest : List HostAction), s.env.rstN = true → s.env.hostProgram = .poll 0 false :: rest →
    ∃ t, s.hostStep = .next t ∧ t.env.resp = .read false s.statusWord ∧
      (s.busy = false → t.env.hostProgram = rest) ∧ (s.busy = true → t.env.hostProgram = s.env.hostProgram))

/-- 00_scope.md R8: once a run has ended every step, whoever's turn it is, leaves the block as it is, but for CYCLE's draw and the
turn used up. R8 ends the run and says nothing of the steps and the timers after it: that there are such steps is the model's
choice (an agent with no step lets its turn pass, notes/assumptions/12.md; CYCLE is drawn at each, 5.md; the schedule may still
name agents, 1.md). -/
def Obligations.EndedRunStaysQuiet : Prop :=
  ∀ s : State, s.RunEnded → step s = .next s.atTurn ∧ s.atTurn.RunEnded ∧ s.SameOperands s.atTurn ∧
    s.atTurn.error = s.error ∧ s.atTurn.ingest = s.ingest
end

