-- ==== Sys2Proof/Laws/Binary32.lean ====
section
/-! SUPPORT. Rounding depends on the quotient alone: any numerator and denominator of the same value round to the same pattern
(00_scope.md R13); a pattern's value is that of its magnitude, with its sign, and grows with it. -/

namespace Sys2Proof.F32

/-- Rounding to an integer does not see a common factor. -/
theorem roundQuot_scale (n d : Nat) {c : Nat} (hc : 0 < c) : roundQuot (c * n) (c * d) = roundQuot n d := by
  unfold roundQuot
  simp only [Nat.mul_div_mul_left n d hc, Nat.mul_mod_mul_left]
  have h1 : c * d < 2 * (c * (n % d)) ↔ d < 2 * (n % d) := by
    rw [Nat.mul_left_comm 2 c]; exact Nat.mul_lt_mul_left hc
  have h2 : 2 * (c * (n % d)) = c * d ↔ 2 * (n % d) = d := by
    rw [Nat.mul_left_comm 2 c]; exact Nat.mul_right_inj hc.ne'
  simp only [h1, h2]

/-- Equal quotients round to the same integer. -/
theorem roundQuot_congr {n d n' d' : Nat} (hd : 0 < d) (hd' : 0 < d') (h : n * d' = n' * d) :
    roundQuot n d = roundQuot n' d' := by
  rw [← roundQuot_scale n d hd', ← roundQuot_scale n' d' hd, Nat.mul_comm d' n, h, Nat.mul_comm d' d, Nat.mul_comm n' d]

/-- A quotient measured in units of `2 ^ k` is the quotient over `2 ^ k`. -/
theorem inUnits_eq (n d : Nat) (k : Int) :
    ((inUnits n d k).1 : ℚ) / (inUnits n d k).2 = (n : ℚ) / d / (2 : ℚ) ^ k := by
  obtain ⟨m, rfl | rfl⟩ := Int.eq_nat_or_neg k
  · simp [inUnits, div_div]
  · simp [inUnits]
    ring

/-- The unit is fixed by the power of two below the quotient. -/
theorem roundUnit_eq {n d : Nat} (hn : 0 < n) (hd : 0 < d) :
    roundUnit n d = max (Int.log 2 ((n : ℚ) / d) - 23) (-149) := by
  unfold roundUnit
  dsimp only
  congr 1
  generalize hk : (Nat.log2 n : Int) - (Nat.log2 d : Int) - 23 = k
  have hd0 : (0 : ℚ) < d := by exact_mod_cast hd
  have hn0 : (0 : ℚ) < n := by exact_mod_cast hn
  have hq : (0 : ℚ) < (n : ℚ) / d := div_pos hn0 hd0
  have two : (2 : ℚ) ≠ 0 := two_ne_zero
  have pow : ∀ e : Int, (0 : ℚ) < 2 ^ e := fun e => zpow_pos two_pos e
  have nlo : (2 : ℚ) ^ (Nat.log2 n : Int) ≤ n := by
    rw [zpow_natCast]; exact_mod_cast Nat.log2_self_le hn.ne'
  have nhi : (n : ℚ) < 2 ^ ((Nat.log2 n : Int) + 1) := by
    have := Nat.lt_log2_self (n := n)
    rw [show ((Nat.log2 n : Int) + 1) = ((Nat.log2 n + 1 : Nat) : Int) by push_cast; rfl, zpow_natCast]; exact_mod_cast this
  have dlo : (2 : ℚ) ^ (Nat.log2 d : Int) ≤ d := by
    rw [zpow_natCast]; exact_mod_cast Nat.log2_self_le hd.ne'
  have dhi : (d : ℚ) < 2 ^ ((Nat.log2 d : Int) + 1) := by
    have := Nat.lt_log2_self (n := d)
    rw [show ((Nat.log2 d : Int) + 1) = ((Nat.log2 d + 1 : Nat) : Int) by push_cast; rfl, zpow_natCast]; exact_mod_cast this
  have qlo : (2 : ℚ) ^ (k + 22) < (n : ℚ) / d := by
    rw [lt_div_iff₀ hd0]
    calc (2 : ℚ) ^ (k + 22) * d < 2 ^ (k + 22) * 2 ^ ((Nat.log2 d : Int) + 1) := mul_lt_mul_of_pos_left dhi (pow _)
      _ = 2 ^ (Nat.log2 n : Int) := by rw [← zpow_add₀ two]; congr 1; omega
      _ ≤ n := nlo
  have qhi : (n : ℚ) / d < 2 ^ (k + 24) := by
    rw [div_lt_iff₀ hd0]
    calc (n : ℚ) < 2 ^ ((Nat.log2 n : Int) + 1) := nhi
      _ = 2 ^ (k + 24) * 2 ^ (Nat.log2 d : Int) := by rw [← zpow_add₀ two]; congr 1; omega
      _ ≤ 2 ^ (k + 24) * d := mul_le_mul_of_nonneg_left dlo (pow _).le
  have log_of : ∀ e : Int, (2 : ℚ) ^ e ≤ (n : ℚ) / d → (n : ℚ) / d < 2 ^ (e + 1) → Int.log 2 ((n : ℚ) / d) = e := by
    intro e h1 h2
    have a : e ≤ Int.log 2 ((n : ℚ) / d) := (Int.zpow_le_iff_le_log (by norm_num) hq).1 (by exact_mod_cast h1)
    have b : Int.log 2 ((n : ℚ) / d) < e + 1 := (Int.lt_zpow_iff_log_lt (by norm_num) hq).1 (by exact_mod_cast h2)
    omega
  have hu : (inUnits n d k).1 / (inUnits n d k).2 < 2 ^ 23 ↔ (n : ℚ) / d < 2 ^ (k + 23) := by
    have hpos : 0 < (inUnits n d k).2 := Nat.mul_pos hd (Nat.pow_pos (by norm_num))
    have hpos' : (0 : ℚ) < (inUnits n d k).2 := by exact_mod_cast hpos
    rw [Nat.div_lt_iff_lt_mul hpos, zpow_add₀ two, mul_comm ((2 : ℚ) ^ k), ← div_lt_iff₀ (pow k), ← inUnits_eq,
      div_lt_iff₀ hpos', show (2 : ℚ) ^ (23 : Int) = ((2 ^ 23 : Nat) : ℚ) by norm_num, ← Nat.cast_mul, Nat.cast_lt]
  by_cases h : (n : ℚ) / d < 2 ^ (k + 23)
  · rw [if_pos (hu.2 h), log_of (k + 22) qlo.le (by rw [show k + 22 + 1 = k + 23 by ring]; exact h)]; ring
  · rw [if_neg (fun h' => h (hu.1 h')), log_of (k + 23) (not_lt.1 h) (by rw [show k + 23 + 1 = k + 24 by ring]; exact qhi)]
    ring

/-- Equal quotients round to the same magnitude. -/
theorem roundMag_congr {n d n' d' : Nat} (hd : 0 < d) (hd' : 0 < d') (h : n * d' = n' * d) : roundMag n d = roundMag n' d' := by
  rcases Nat.eq_zero_or_pos n with rfl | hn
  · have : n' = 0 := by simpa [hd.ne'] using h.symm
    simp [roundMag, this]
  have hn' : 0 < n' := by
    rcases Nat.eq_zero_or_pos n' with rfl | h'
    · simp [hn.ne', hd'.ne'] at h
    · exact h'
  have hq : (n : ℚ) / d = (n' : ℚ) / d' := by
    rw [div_eq_div_iff (by exact_mod_cast hd.ne') (by exact_mod_cast hd'.ne')]; exact_mod_cast h
  have hu : roundUnit n d = roundUnit n' d' := by rw [roundUnit_eq hn hd, roundUnit_eq hn' hd', hq]
  unfold roundMag
  rw [if_neg hn.ne', if_neg hn'.ne', hu]
  dsimp only
  rw [roundQuot_congr (n' := (inUnits n' d' (roundUnit n' d')).1) (d' := (inUnits n' d' (roundUnit n' d')).2)]
  · exact Nat.mul_pos hd (Nat.pow_pos (by norm_num))
  · exact Nat.mul_pos hd' (Nat.pow_pos (by norm_num))
  · simp only [inUnits]
    calc _ = (n * d') * (2 ^ (-roundUnit n' d').toNat * 2 ^ (roundUnit n' d').toNat) := by ring
      _ = _ := by rw [h]; ring

/-- The exponent field is the upper part of the magnitude. -/
theorem expo_eq (x : Word) : expo x = mag x / 2 ^ 23 := by
  simp only [expo, mag, BitVec.extractLsb'_toNat, Nat.shiftRight_eq_div_pow]
  omega

/-- The fraction field is the lower part of the magnitude. -/
theorem frac_eq (x : Word) : frac x = mag x % 2 ^ 23 := by
  simp only [frac, mag, BitVec.extractLsb'_toNat, Nat.shiftRight_zero]
  omega

/-- The value of a magnitude pattern. -/
def magValue (m : Nat) : ℚ :=
  ((if m / 2 ^ 23 = 0 then m % 2 ^ 23 else m % 2 ^ 23 + 2 ^ 23 : Nat) : ℚ) * 2 ^ (((max (m / 2 ^ 23) 1 : Nat) : Int) - 150)

/-- A pattern's value is its magnitude's, with its sign. -/
theorem toRat_eq (x : Word) : toRat x = if sign x then -magValue (mag x) else magValue (mag x) := by
  unfold toRat mant unitExp magValue
  rw [expo_eq, frac_eq]
  cases sign x
  · rw [if_neg Bool.false_ne_true, if_neg Bool.false_ne_true, one_mul]
  · rw [if_pos rfl, if_pos rfl, neg_one_mul, neg_mul]

/-- Greater magnitude patterns have greater values, subnormals and normals alike. -/
theorem magValue_strictMono : StrictMono magValue := by
  refine strictMono_nat_of_lt_succ fun m => ?_
  unfold magValue
  have pow : ∀ e : Int, (0 : ℚ) < 2 ^ e := fun e => zpow_pos two_pos e
  by_cases h : (m + 1) % 2 ^ 23 = 0
  · have hq : (m + 1) / 2 ^ 23 = m / 2 ^ 23 + 1 := by omega
    have hr : m % 2 ^ 23 = 2 ^ 23 - 1 := by omega
    rw [hq, hr, h, if_neg (Nat.succ_ne_zero _)]
    by_cases h0 : m / 2 ^ 23 = 0
    · rw [h0]
      norm_num
    · have h1 : 1 ≤ m / 2 ^ 23 := Nat.one_le_iff_ne_zero.2 h0
      rw [if_neg h0, Nat.max_eq_left h1, Nat.max_eq_left (by omega : 1 ≤ m / 2 ^ 23 + 1),
        show (((m / 2 ^ 23 + 1 : Nat) : Int) - 150) = (((m / 2 ^ 23 : Nat) : Int) - 150) + 1 by push_cast; ring,
        zpow_add_one₀ two_ne_zero]
      generalize (((m / 2 ^ 23 : Nat) : Int) - 150) = k
      have := pow k
      norm_num
      linarith
  · have hq : (m + 1) / 2 ^ 23 = m / 2 ^ 23 := by omega
    have hr : (m + 1) % 2 ^ 23 = m % 2 ^ 23 + 1 := by omega
    rw [hq, hr]
    refine mul_lt_mul_of_pos_right ?_ (pow _)
    split <;> exact_mod_cast (by omega)

@[simp] theorem magValue_zero : magValue 0 = 0 := by simp [magValue]

end Sys2Proof.F32
end

