-- ==== Sys2Proof/Laws/State.lean ====
section
/-! SUPPORT. One lemma per part of the state per named update, so that no proof unfolds a record update: the groups an update
leaves alone, and the fields of those it writes. -/

namespace Sys2Proof.Machine

section -- recordErr
variable (s : State) (c : Cause) (w : Word)

@[simp] theorem State.recordErr_build : (s.recordErr c w).build = s.build := rfl
@[simp] theorem State.recordErr_env : (s.recordErr c w).env = s.env := rfl
@[simp] theorem State.recordErr_cfg : (s.recordErr c w).cfg = s.cfg := rfl
@[simp] theorem State.recordErr_status : (s.recordErr c w).status = s.status := rfl
@[simp] theorem State.recordErr_buf : (s.recordErr c w).buf = s.buf := rfl
@[simp] theorem State.recordErr_ingest : (s.recordErr c w).ingest = s.ingest := rfl
@[simp] theorem State.recordErr_peak : (s.recordErr c w).peak = s.peak := rfl
@[simp] theorem State.recordErr_angle : (s.recordErr c w).angle = s.angle := rfl
@[simp] theorem State.recordErr_time : (s.recordErr c w).time = s.time := rfl
@[simp] theorem State.recordErr_eng : (s.recordErr c w).eng = s.eng := rfl
@[simp] theorem State.recordErr_ramA : (s.recordErr c w).ramA = s.ramA := rfl
@[simp] theorem State.recordErr_ramB : (s.recordErr c w).ramB = s.ramB := rfl
@[simp] theorem State.recordErr_res : (s.recordErr c w).res = s.res := rfl
@[simp] theorem State.recordErr_lut : (s.recordErr c w).lut = s.lut := rfl
@[simp] theorem State.recordErr_n : (s.recordErr c w).n = s.n := rfl
@[simp] theorem State.recordErr_busy : (s.recordErr c w).busy = s.busy := rfl
@[simp] theorem State.recordErr_buffersFull : (s.recordErr c w).buffersFull = s.buffersFull := rfl
@[simp] theorem State.recordErr_geometryValid : (s.recordErr c w).geometryValid = s.geometryValid := rfl
@[simp] theorem State.recordErr_readA (j : Nat) : (s.recordErr c w).readA j = s.readA j := rfl
@[simp] theorem State.recordErr_readB (j : Nat) : (s.recordErr c w).readB j = s.readB j := rfl
@[simp] theorem State.recordErr_readRes (j : Nat) : (s.recordErr c w).readRes j = s.readRes j := rfl
@[simp] theorem State.recordErr_readLut (j : Nat) : (s.recordErr c w).readLut j = s.readLut j := rfl

end

section -- clearErr
variable (s : State) (w : Word)

@[simp] theorem State.clearErr_build : (s.clearErr w).build = s.build := rfl
@[simp] theorem State.clearErr_env : (s.clearErr w).env = s.env := rfl
@[simp] theorem State.clearErr_cfg : (s.clearErr w).cfg = s.cfg := rfl
@[simp] theorem State.clearErr_status : (s.clearErr w).status = s.status := rfl
@[simp] theorem State.clearErr_err : (s.clearErr w).error.err = s.error.err &&& ~~~(w.truncate 10) := rfl
@[simp] theorem State.clearErr_cause : (s.clearErr w).error.cause = s.error.cause := rfl
@[simp] theorem State.clearErr_info : (s.clearErr w).error.info = s.error.info := rfl
@[simp] theorem State.clearErr_buf : (s.clearErr w).buf = s.buf := rfl
@[simp] theorem State.clearErr_ingest : (s.clearErr w).ingest = s.ingest := rfl
@[simp] theorem State.clearErr_peak : (s.clearErr w).peak = s.peak := rfl
@[simp] theorem State.clearErr_angle : (s.clearErr w).angle = s.angle := rfl
@[simp] theorem State.clearErr_time : (s.clearErr w).time = s.time := rfl
@[simp] theorem State.clearErr_eng : (s.clearErr w).eng = s.eng := rfl
@[simp] theorem State.clearErr_ramA : (s.clearErr w).ramA = s.ramA := rfl
@[simp] theorem State.clearErr_ramB : (s.clearErr w).ramB = s.ramB := rfl
@[simp] theorem State.clearErr_res : (s.clearErr w).res = s.res := rfl
@[simp] theorem State.clearErr_lut : (s.clearErr w).lut = s.lut := rfl
@[simp] theorem State.clearErr_n : (s.clearErr w).n = s.n := rfl
@[simp] theorem State.clearErr_busy : (s.clearErr w).busy = s.busy := rfl
@[simp] theorem State.clearErr_buffersFull : (s.clearErr w).buffersFull = s.buffersFull := rfl
@[simp] theorem State.clearErr_geometryValid : (s.clearErr w).geometryValid = s.geometryValid := rfl
@[simp] theorem State.clearErr_readA (j : Nat) : (s.clearErr w).readA j = s.readA j := rfl
@[simp] theorem State.clearErr_readB (j : Nat) : (s.clearErr w).readB j = s.readB j := rfl
@[simp] theorem State.clearErr_readRes (j : Nat) : (s.clearErr w).readRes j = s.readRes j := rfl
@[simp] theorem State.clearErr_readLut (j : Nat) : (s.clearErr w).readLut j = s.readLut j := rfl

end

section -- setStage
variable (s : State) (g : Stage)

@[simp] theorem State.setStage_build : (s.setStage g).build = s.build := rfl
@[simp] theorem State.setStage_env : (s.setStage g).env = s.env := rfl
@[simp] theorem State.setStage_cfg : (s.setStage g).cfg = s.cfg := rfl
@[simp] theorem State.setStage_stage : (s.setStage g).status.stage = g := rfl
@[simp] theorem State.setStage_done : (s.setStage g).status.done = s.status.done := rfl
@[simp] theorem State.setStage_resValid : (s.setStage g).status.resValid = s.status.resValid := rfl
@[simp] theorem State.setStage_peakValid : (s.setStage g).status.peakValid = s.status.peakValid := rfl
@[simp] theorem State.setStage_angleValid : (s.setStage g).status.angleValid = s.status.angleValid := rfl
@[simp] theorem State.setStage_sat : (s.setStage g).status.sat = s.status.sat := rfl
@[simp] theorem State.setStage_frameRdy : (s.setStage g).status.frameRdy = s.status.frameRdy := rfl
@[simp] theorem State.setStage_resMode : (s.setStage g).status.resMode = s.status.resMode := rfl
@[simp] theorem State.setStage_error : (s.setStage g).error = s.error := rfl
@[simp] theorem State.setStage_buf : (s.setStage g).buf = s.buf := rfl
@[simp] theorem State.setStage_ingest : (s.setStage g).ingest = s.ingest := rfl
@[simp] theorem State.setStage_peak : (s.setStage g).peak = s.peak := rfl
@[simp] theorem State.setStage_angle : (s.setStage g).angle = s.angle := rfl
@[simp] theorem State.setStage_time : (s.setStage g).time = s.time := rfl
@[simp] theorem State.setStage_eng : (s.setStage g).eng = s.eng := rfl
@[simp] theorem State.setStage_ramA : (s.setStage g).ramA = s.ramA := rfl
@[simp] theorem State.setStage_ramB : (s.setStage g).ramB = s.ramB := rfl
@[simp] theorem State.setStage_res : (s.setStage g).res = s.res := rfl
@[simp] theorem State.setStage_lut : (s.setStage g).lut = s.lut := rfl
@[simp] theorem State.setStage_n : (s.setStage g).n = s.n := rfl
@[simp] theorem State.setStage_buffersFull : (s.setStage g).buffersFull = s.buffersFull := rfl
@[simp] theorem State.setStage_geometryValid : (s.setStage g).geometryValid = s.geometryValid := rfl
@[simp] theorem State.setStage_readA (j : Nat) : (s.setStage g).readA j = s.readA j := rfl
@[simp] theorem State.setStage_readB (j : Nat) : (s.setStage g).readB j = s.readB j := rfl
@[simp] theorem State.setStage_readRes (j : Nat) : (s.setStage g).readRes j = s.readRes j := rfl
@[simp] theorem State.setStage_readLut (j : Nat) : (s.setStage g).readLut j = s.readLut j := rfl

end

section -- finish
variable (s : State)

@[simp] theorem State.finish_build : (s.finish).build = s.build := rfl
@[simp] theorem State.finish_env : (s.finish).env = s.env := rfl
@[simp] theorem State.finish_cfg : (s.finish).cfg = s.cfg := rfl
@[simp] theorem State.finish_stage : (s.finish).status.stage = .idle := rfl
@[simp] theorem State.finish_done : (s.finish).status.done = true := rfl
@[simp] theorem State.finish_resValid : (s.finish).status.resValid = s.status.resValid := rfl
@[simp] theorem State.finish_peakValid : (s.finish).status.peakValid = s.status.peakValid := rfl
@[simp] theorem State.finish_angleValid : (s.finish).status.angleValid = s.status.angleValid := rfl
@[simp] theorem State.finish_sat : (s.finish).status.sat = s.status.sat := rfl
@[simp] theorem State.finish_frameRdy : (s.finish).status.frameRdy = s.status.frameRdy := rfl
@[simp] theorem State.finish_resMode : (s.finish).status.resMode = s.status.resMode := rfl
@[simp] theorem State.finish_error : (s.finish).error = s.error := rfl
@[simp] theorem State.finish_buf : (s.finish).buf = s.buf := rfl
@[simp] theorem State.finish_ingest : (s.finish).ingest = s.ingest := rfl
@[simp] theorem State.finish_peak : (s.finish).peak = s.peak := rfl
@[simp] theorem State.finish_angle : (s.finish).angle = s.angle := rfl
@[simp] theorem State.finish_time : (s.finish).time = s.time := rfl
@[simp] theorem State.finish_eng : (s.finish).eng = s.eng := rfl
@[simp] theorem State.finish_ramA : (s.finish).ramA = s.ramA := rfl
@[simp] theorem State.finish_ramB : (s.finish).ramB = s.ramB := rfl
@[simp] theorem State.finish_res : (s.finish).res = s.res := rfl
@[simp] theorem State.finish_lut : (s.finish).lut = s.lut := rfl
@[simp] theorem State.finish_n : (s.finish).n = s.n := rfl
@[simp] theorem State.finish_buffersFull : (s.finish).buffersFull = s.buffersFull := rfl
@[simp] theorem State.finish_geometryValid : (s.finish).geometryValid = s.geometryValid := rfl
@[simp] theorem State.finish_readA (j : Nat) : (s.finish).readA j = s.readA j := rfl
@[simp] theorem State.finish_readB (j : Nat) : (s.finish).readB j = s.readB j := rfl
@[simp] theorem State.finish_readRes (j : Nat) : (s.finish).readRes j = s.readRes j := rfl
@[simp] theorem State.finish_readLut (j : Nat) : (s.finish).readLut j = s.readLut j := rfl

end

section -- dropResults
variable (s : State)

@[simp] theorem State.dropResults_build : (s.dropResults).build = s.build := rfl
@[simp] theorem State.dropResults_env : (s.dropResults).env = s.env := rfl
@[simp] theorem State.dropResults_cfg : (s.dropResults).cfg = s.cfg := rfl
@[simp] theorem State.dropResults_stage : (s.dropResults).status.stage = s.status.stage := rfl
@[simp] theorem State.dropResults_done : (s.dropResults).status.done = s.status.done := rfl
@[simp] theorem State.dropResults_resValid : (s.dropResults).status.resValid = false := rfl
@[simp] theorem State.dropResults_peakValid : (s.dropResults).status.peakValid = false := rfl
@[simp] theorem State.dropResults_angleValid : (s.dropResults).status.angleValid = false := rfl
@[simp] theorem State.dropResults_sat : (s.dropResults).status.sat = s.status.sat := rfl
@[simp] theorem State.dropResults_frameRdy : (s.dropResults).status.frameRdy = s.status.frameRdy := rfl
@[simp] theorem State.dropResults_resMode : (s.dropResults).status.resMode = s.status.resMode := rfl
@[simp] theorem State.dropResults_error : (s.dropResults).error = s.error := rfl
@[simp] theorem State.dropResults_buf : (s.dropResults).buf = s.buf := rfl
@[simp] theorem State.dropResults_ingest : (s.dropResults).ingest = s.ingest := rfl
@[simp] theorem State.dropResults_peak : (s.dropResults).peak = s.peak := rfl
@[simp] theorem State.dropResults_angle : (s.dropResults).angle = s.angle := rfl
@[simp] theorem State.dropResults_time : (s.dropResults).time = s.time := rfl
@[simp] theorem State.dropResults_eng : (s.dropResults).eng = s.eng := rfl
@[simp] theorem State.dropResults_ramA : (s.dropResults).ramA = s.ramA := rfl
@[simp] theorem State.dropResults_ramB : (s.dropResults).ramB = s.ramB := rfl
@[simp] theorem State.dropResults_res : (s.dropResults).res = s.res := rfl
@[simp] theorem State.dropResults_lut : (s.dropResults).lut = s.lut := rfl
@[simp] theorem State.dropResults_n : (s.dropResults).n = s.n := rfl
@[simp] theorem State.dropResults_buffersFull : (s.dropResults).buffersFull = s.buffersFull := rfl
@[simp] theorem State.dropResults_geometryValid : (s.dropResults).geometryValid = s.geometryValid := rfl
@[simp] theorem State.dropResults_readA (j : Nat) : (s.dropResults).readA j = s.readA j := rfl
@[simp] theorem State.dropResults_readB (j : Nat) : (s.dropResults).readB j = s.readB j := rfl
@[simp] theorem State.dropResults_readRes (j : Nat) : (s.dropResults).readRes j = s.readRes j := rfl
@[simp] theorem State.dropResults_readLut (j : Nat) : (s.dropResults).readLut j = s.readLut j := rfl

end

section -- emptyBuffers
variable (s : State)

@[simp] theorem State.emptyBuffers_build : (s.emptyBuffers).build = s.build := rfl
@[simp] theorem State.emptyBuffers_env : (s.emptyBuffers).env = s.env := rfl
@[simp] theorem State.emptyBuffers_cfg : (s.emptyBuffers).cfg = s.cfg := rfl
@[simp] theorem State.emptyBuffers_status : (s.emptyBuffers).status = s.status := rfl
@[simp] theorem State.emptyBuffers_error : (s.emptyBuffers).error = s.error := rfl
@[simp] theorem State.emptyBuffers_aCount : (s.emptyBuffers).buf.aCount = 0 := rfl
@[simp] theorem State.emptyBuffers_bCount : (s.emptyBuffers).buf.bCount = 0 := rfl
@[simp] theorem State.emptyBuffers_ingest : (s.emptyBuffers).ingest = s.ingest := rfl
@[simp] theorem State.emptyBuffers_peak : (s.emptyBuffers).peak = s.peak := rfl
@[simp] theorem State.emptyBuffers_angle : (s.emptyBuffers).angle = s.angle := rfl
@[simp] theorem State.emptyBuffers_time : (s.emptyBuffers).time = s.time := rfl
@[simp] theorem State.emptyBuffers_eng : (s.emptyBuffers).eng = s.eng := rfl
@[simp] theorem State.emptyBuffers_ramA : (s.emptyBuffers).ramA = s.ramA := rfl
@[simp] theorem State.emptyBuffers_ramB : (s.emptyBuffers).ramB = s.ramB := rfl
@[simp] theorem State.emptyBuffers_res : (s.emptyBuffers).res = s.res := rfl
@[simp] theorem State.emptyBuffers_lut : (s.emptyBuffers).lut = s.lut := rfl
@[simp] theorem State.emptyBuffers_n : (s.emptyBuffers).n = s.n := rfl
@[simp] theorem State.emptyBuffers_busy : (s.emptyBuffers).busy = s.busy := rfl
@[simp] theorem State.emptyBuffers_geometryValid : (s.emptyBuffers).geometryValid = s.geometryValid := rfl
@[simp] theorem State.emptyBuffers_readA (j : Nat) : (s.emptyBuffers).readA j = s.readA j := rfl
@[simp] theorem State.emptyBuffers_readB (j : Nat) : (s.emptyBuffers).readB j = s.readB j := rfl
@[simp] theorem State.emptyBuffers_readRes (j : Nat) : (s.emptyBuffers).readRes j = s.readRes j := rfl
@[simp] theorem State.emptyBuffers_readLut (j : Nat) : (s.emptyBuffers).readLut j = s.readLut j := rfl

end

section -- startCorr
variable (s : State) (m : Mode)

@[simp] theorem State.startCorr_build : (s.startCorr m).build = s.build := rfl
@[simp] theorem State.startCorr_env : (s.startCorr m).env = s.env := rfl
@[simp] theorem State.startCorr_cfg : (s.startCorr m).cfg = s.cfg := rfl
@[simp] theorem State.startCorr_stage : (s.startCorr m).status.stage = .corr := rfl
@[simp] theorem State.startCorr_done : (s.startCorr m).status.done = false := rfl
@[simp] theorem State.startCorr_resValid : (s.startCorr m).status.resValid = false := rfl
@[simp] theorem State.startCorr_peakValid : (s.startCorr m).status.peakValid = false := rfl
@[simp] theorem State.startCorr_angleValid : (s.startCorr m).status.angleValid = false := rfl
@[simp] theorem State.startCorr_sat : (s.startCorr m).status.sat = false := rfl
@[simp] theorem State.startCorr_frameRdy : (s.startCorr m).status.frameRdy = false := rfl
@[simp] theorem State.startCorr_resMode : (s.startCorr m).status.resMode = s.status.resMode := rfl
@[simp] theorem State.startCorr_error : (s.startCorr m).error = s.error := rfl
@[simp] theorem State.startCorr_buf : (s.startCorr m).buf = s.buf := rfl
@[simp] theorem State.startCorr_ingest : (s.startCorr m).ingest = s.ingest := rfl
@[simp] theorem State.startCorr_peak : (s.startCorr m).peak = s.peak := rfl
@[simp] theorem State.startCorr_angle : (s.startCorr m).angle = s.angle := rfl
@[simp] theorem State.startCorr_cycle : (s.startCorr m).time.cycle = s.time.cycle := rfl
@[simp] theorem State.startCorr_t0 : (s.startCorr m).time.t0 = s.time.cycle := rfl
@[simp] theorem State.startCorr_t1 : (s.startCorr m).time.t1 = s.time.t1 := rfl
@[simp] theorem State.startCorr_chain : (s.startCorr m).eng.chain = .single := rfl
@[simp] theorem State.startCorr_mode : (s.startCorr m).eng.mode = m := rfl
@[simp] theorem State.startCorr_src : (s.startCorr m).eng.src = s.eng.src := rfl
@[simp] theorem State.startCorr_sel : (s.startCorr m).eng.sel = s.eng.sel := rfl
@[simp] theorem State.startCorr_amode : (s.startCorr m).eng.amode = s.eng.amode := rfl
@[simp] theorem State.startCorr_imm : (s.startCorr m).eng.imm = s.eng.imm := rfl
@[simp] theorem State.startCorr_ramA : (s.startCorr m).ramA = s.ramA := rfl
@[simp] theorem State.startCorr_ramB : (s.startCorr m).ramB = s.ramB := rfl
@[simp] theorem State.startCorr_res : (s.startCorr m).res = s.res := rfl
@[simp] theorem State.startCorr_lut : (s.startCorr m).lut = s.lut := rfl
@[simp] theorem State.startCorr_n : (s.startCorr m).n = s.n := rfl
@[simp] theorem State.startCorr_buffersFull : (s.startCorr m).buffersFull = s.buffersFull := rfl
@[simp] theorem State.startCorr_geometryValid : (s.startCorr m).geometryValid = s.geometryValid := rfl
@[simp] theorem State.startCorr_readA (j : Nat) : (s.startCorr m).readA j = s.readA j := rfl
@[simp] theorem State.startCorr_readB (j : Nat) : (s.startCorr m).readB j = s.readB j := rfl
@[simp] theorem State.startCorr_readRes (j : Nat) : (s.startCorr m).readRes j = s.readRes j := rfl
@[simp] theorem State.startCorr_readLut (j : Nat) : (s.startCorr m).readLut j = s.readLut j := rfl

end

section -- corrWrites
variable (s : State)

@[simp] theorem State.corrWrites_build : (s.corrWrites).build = s.build := rfl
@[simp] theorem State.corrWrites_env : (s.corrWrites).env = s.env := rfl
@[simp] theorem State.corrWrites_cfg : (s.corrWrites).cfg = s.cfg := rfl
@[simp] theorem State.corrWrites_stage : (s.corrWrites).status.stage = s.status.stage := rfl
@[simp] theorem State.corrWrites_done : (s.corrWrites).status.done = s.status.done := rfl
@[simp] theorem State.corrWrites_resValid : (s.corrWrites).status.resValid = true := rfl
@[simp] theorem State.corrWrites_peakValid : (s.corrWrites).status.peakValid = s.status.peakValid := rfl
@[simp] theorem State.corrWrites_angleValid : (s.corrWrites).status.angleValid = s.status.angleValid := rfl
@[simp] theorem State.corrWrites_sat : (s.corrWrites).status.sat = s.status.sat := rfl
@[simp] theorem State.corrWrites_frameRdy : (s.corrWrites).status.frameRdy = s.status.frameRdy := rfl
@[simp] theorem State.corrWrites_resMode : (s.corrWrites).status.resMode = s.eng.mode := rfl
@[simp] theorem State.corrWrites_error : (s.corrWrites).error = s.error := rfl
@[simp] theorem State.corrWrites_buf : (s.corrWrites).buf = s.buf := rfl
@[simp] theorem State.corrWrites_ingest : (s.corrWrites).ingest = s.ingest := rfl
@[simp] theorem State.corrWrites_peak : (s.corrWrites).peak = s.peak := rfl
@[simp] theorem State.corrWrites_angle : (s.corrWrites).angle = s.angle := rfl
@[simp] theorem State.corrWrites_cycle : (s.corrWrites).time.cycle = s.time.cycle := rfl
@[simp] theorem State.corrWrites_t0 : (s.corrWrites).time.t0 = s.time.t0 := rfl
@[simp] theorem State.corrWrites_t1 : (s.corrWrites).time.t1 = s.time.cycle := rfl
@[simp] theorem State.corrWrites_eng : (s.corrWrites).eng = s.eng := rfl
@[simp] theorem State.corrWrites_ramA : (s.corrWrites).ramA = s.ramA := rfl
@[simp] theorem State.corrWrites_ramB : (s.corrWrites).ramB = s.ramB := rfl
@[simp] theorem State.corrWrites_res : (s.corrWrites).res = Ram.setFrom s.res 0 (s.correlation s.eng.mode) := rfl
@[simp] theorem State.corrWrites_lut : (s.corrWrites).lut = s.lut := rfl
@[simp] theorem State.corrWrites_n : (s.corrWrites).n = s.n := rfl
@[simp] theorem State.corrWrites_buffersFull : (s.corrWrites).buffersFull = s.buffersFull := rfl
@[simp] theorem State.corrWrites_geometryValid : (s.corrWrites).geometryValid = s.geometryValid := rfl
@[simp] theorem State.corrWrites_readA (j : Nat) : (s.corrWrites).readA j = s.readA j := rfl
@[simp] theorem State.corrWrites_readB (j : Nat) : (s.corrWrites).readB j = s.readB j := rfl
@[simp] theorem State.corrWrites_readLut (j : Nat) : (s.corrWrites).readLut j = s.readLut j := rfl

end

section -- startPeak
variable (s : State)

@[simp] theorem State.startPeak_build : (s.startPeak).build = s.build := rfl
@[simp] theorem State.startPeak_env : (s.startPeak).env = s.env := rfl
@[simp] theorem State.startPeak_cfg : (s.startPeak).cfg = s.cfg := rfl
@[simp] theorem State.startPeak_stage : (s.startPeak).status.stage = .peak := rfl
@[simp] theorem State.startPeak_done : (s.startPeak).status.done = false := rfl
@[simp] theorem State.startPeak_resValid : (s.startPeak).status.resValid = s.status.resValid := rfl
@[simp] theorem State.startPeak_peakValid : (s.startPeak).status.peakValid = false := rfl
@[simp] theorem State.startPeak_angleValid : (s.startPeak).status.angleValid = false := rfl
@[simp] theorem State.startPeak_sat : (s.startPeak).status.sat = false := rfl
@[simp] theorem State.startPeak_frameRdy : (s.startPeak).status.frameRdy = s.status.frameRdy := rfl
@[simp] theorem State.startPeak_resMode : (s.startPeak).status.resMode = s.status.resMode := rfl
@[simp] theorem State.startPeak_error : (s.startPeak).error = s.error := rfl
@[simp] theorem State.startPeak_buf : (s.startPeak).buf = s.buf := rfl
@[simp] theorem State.startPeak_ingest : (s.startPeak).ingest = s.ingest := rfl
@[simp] theorem State.startPeak_peak : (s.startPeak).peak = s.peak := rfl
@[simp] theorem State.startPeak_angle : (s.startPeak).angle = s.angle := rfl
@[simp] theorem State.startPeak_time : (s.startPeak).time = s.time := rfl
@[simp] theorem State.startPeak_chain : (s.startPeak).eng.chain = .single := rfl
@[simp] theorem State.startPeak_mode : (s.startPeak).eng.mode = s.eng.mode := rfl
@[simp] theorem State.startPeak_src : (s.startPeak).eng.src = s.eng.src := rfl
@[simp] theorem State.startPeak_sel : (s.startPeak).eng.sel = s.eng.sel := rfl
@[simp] theorem State.startPeak_amode : (s.startPeak).eng.amode = s.eng.amode := rfl
@[simp] theorem State.startPeak_imm : (s.startPeak).eng.imm = s.eng.imm := rfl
@[simp] theorem State.startPeak_ramA : (s.startPeak).ramA = s.ramA := rfl
@[simp] theorem State.startPeak_ramB : (s.startPeak).ramB = s.ramB := rfl
@[simp] theorem State.startPeak_res : (s.startPeak).res = s.res := rfl
@[simp] theorem State.startPeak_lut : (s.startPeak).lut = s.lut := rfl
@[simp] theorem State.startPeak_n : (s.startPeak).n = s.n := rfl
@[simp] theorem State.startPeak_buffersFull : (s.startPeak).buffersFull = s.buffersFull := rfl
@[simp] theorem State.startPeak_geometryValid : (s.startPeak).geometryValid = s.geometryValid := rfl
@[simp] theorem State.startPeak_readA (j : Nat) : (s.startPeak).readA j = s.readA j := rfl
@[simp] theorem State.startPeak_readB (j : Nat) : (s.startPeak).readB j = s.readB j := rfl
@[simp] theorem State.startPeak_readRes (j : Nat) : (s.startPeak).readRes j = s.readRes j := rfl
@[simp] theorem State.startPeak_readLut (j : Nat) : (s.startPeak).readLut j = s.readLut j := rfl

end

section -- peakWrites
variable (s : State)

@[simp] theorem State.peakWrites_build : (s.peakWrites).build = s.build := rfl
@[simp] theorem State.peakWrites_env : (s.peakWrites).env = s.env := rfl
@[simp] theorem State.peakWrites_cfg : (s.peakWrites).cfg = s.cfg := rfl
@[simp] theorem State.peakWrites_stage : (s.peakWrites).status.stage = s.status.stage := rfl
@[simp] theorem State.peakWrites_done : (s.peakWrites).status.done = s.status.done := rfl
@[simp] theorem State.peakWrites_resValid : (s.peakWrites).status.resValid = s.status.resValid := rfl
@[simp] theorem State.peakWrites_peakValid : (s.peakWrites).status.peakValid = true := rfl
@[simp] theorem State.peakWrites_angleValid : (s.peakWrites).status.angleValid = s.status.angleValid := rfl
@[simp] theorem State.peakWrites_sat : (s.peakWrites).status.sat = s.status.sat := rfl
@[simp] theorem State.peakWrites_frameRdy : (s.peakWrites).status.frameRdy = s.status.frameRdy := rfl
@[simp] theorem State.peakWrites_resMode : (s.peakWrites).status.resMode = s.status.resMode := rfl
@[simp] theorem State.peakWrites_error : (s.peakWrites).error = s.error := rfl
@[simp] theorem State.peakWrites_buf : (s.peakWrites).buf = s.buf := rfl
@[simp] theorem State.peakWrites_ingest : (s.peakWrites).ingest = s.ingest := rfl
@[simp] theorem State.peakWrites_angle : (s.peakWrites).angle = s.angle := rfl
@[simp] theorem State.peakWrites_time : (s.peakWrites).time = s.time := rfl
@[simp] theorem State.peakWrites_eng : (s.peakWrites).eng = s.eng := rfl
@[simp] theorem State.peakWrites_ramA : (s.peakWrites).ramA = s.ramA := rfl
@[simp] theorem State.peakWrites_ramB : (s.peakWrites).ramB = s.ramB := rfl
@[simp] theorem State.peakWrites_res : (s.peakWrites).res = s.res := rfl
@[simp] theorem State.peakWrites_lut : (s.peakWrites).lut = s.lut := rfl
@[simp] theorem State.peakWrites_n : (s.peakWrites).n = s.n := rfl
@[simp] theorem State.peakWrites_buffersFull : (s.peakWrites).buffersFull = s.buffersFull := rfl
@[simp] theorem State.peakWrites_geometryValid : (s.peakWrites).geometryValid = s.geometryValid := rfl
@[simp] theorem State.peakWrites_readA (j : Nat) : (s.peakWrites).readA j = s.readA j := rfl
@[simp] theorem State.peakWrites_readB (j : Nat) : (s.peakWrites).readB j = s.readB j := rfl
@[simp] theorem State.peakWrites_readRes (j : Nat) : (s.peakWrites).readRes j = s.readRes j := rfl
@[simp] theorem State.peakWrites_readLut (j : Nat) : (s.peakWrites).readLut j = s.readLut j := rfl

end

section -- startAngle
variable (s : State) (x : IdxSrc) (k : Index)

@[simp] theorem State.startAngle_build : (s.startAngle x k).build = s.build := rfl
@[simp] theorem State.startAngle_env : (s.startAngle x k).env = s.env := rfl
@[simp] theorem State.startAngle_cfg : (s.startAngle x k).cfg = s.cfg := rfl
@[simp] theorem State.startAngle_stage : (s.startAngle x k).status.stage = .angle := rfl
@[simp] theorem State.startAngle_done : (s.startAngle x k).status.done = false := rfl
@[simp] theorem State.startAngle_resValid : (s.startAngle x k).status.resValid = s.status.resValid := rfl
@[simp] theorem State.startAngle_peakValid : (s.startAngle x k).status.peakValid = s.status.peakValid := rfl
@[simp] theorem State.startAngle_angleValid : (s.startAngle x k).status.angleValid = false := rfl
@[simp] theorem State.startAngle_sat : (s.startAngle x k).status.sat = false := rfl
@[simp] theorem State.startAngle_frameRdy : (s.startAngle x k).status.frameRdy = s.status.frameRdy := rfl
@[simp] theorem State.startAngle_resMode : (s.startAngle x k).status.resMode = s.status.resMode := rfl
@[simp] theorem State.startAngle_error : (s.startAngle x k).error = s.error := rfl
@[simp] theorem State.startAngle_buf : (s.startAngle x k).buf = s.buf := rfl
@[simp] theorem State.startAngle_ingest : (s.startAngle x k).ingest = s.ingest := rfl
@[simp] theorem State.startAngle_peak : (s.startAngle x k).peak = s.peak := rfl
@[simp] theorem State.startAngle_angle : (s.startAngle x k).angle = s.angle := rfl
@[simp] theorem State.startAngle_time : (s.startAngle x k).time = s.time := rfl
@[simp] theorem State.startAngle_chain : (s.startAngle x k).eng.chain = .single := rfl
@[simp] theorem State.startAngle_mode : (s.startAngle x k).eng.mode = s.eng.mode := rfl
@[simp] theorem State.startAngle_src : (s.startAngle x k).eng.src = x := rfl
@[simp] theorem State.startAngle_sel : (s.startAngle x k).eng.sel = s.peakSel := rfl
@[simp] theorem State.startAngle_amode : (s.startAngle x k).eng.amode = s.angleMode := rfl
@[simp] theorem State.startAngle_imm : (s.startAngle x k).eng.imm = k := rfl
@[simp] theorem State.startAngle_ramA : (s.startAngle x k).ramA = s.ramA := rfl
@[simp] theorem State.startAngle_ramB : (s.startAngle x k).ramB = s.ramB := rfl
@[simp] theorem State.startAngle_res : (s.startAngle x k).res = s.res := rfl
@[simp] theorem State.startAngle_lut : (s.startAngle x k).lut = s.lut := rfl
@[simp] theorem State.startAngle_n : (s.startAngle x k).n = s.n := rfl
@[simp] theorem State.startAngle_buffersFull : (s.startAngle x k).buffersFull = s.buffersFull := rfl
@[simp] theorem State.startAngle_geometryValid : (s.startAngle x k).geometryValid = s.geometryValid := rfl
@[simp] theorem State.startAngle_readA (j : Nat) : (s.startAngle x k).readA j = s.readA j := rfl
@[simp] theorem State.startAngle_readB (j : Nat) : (s.startAngle x k).readB j = s.readB j := rfl
@[simp] theorem State.startAngle_readRes (j : Nat) : (s.startAngle x k).readRes j = s.readRes j := rfl
@[simp] theorem State.startAngle_readLut (j : Nat) : (s.startAngle x k).readLut j = s.readLut j := rfl

end

section -- angleWrites
variable (s : State)

@[simp] theorem State.angleWrites_build : (s.angleWrites).build = s.build := rfl
@[simp] theorem State.angleWrites_env : (s.angleWrites).env = s.env := rfl
@[simp] theorem State.angleWrites_cfg : (s.angleWrites).cfg = s.cfg := rfl
@[simp] theorem State.angleWrites_stage : (s.angleWrites).status.stage = s.status.stage := rfl
@[simp] theorem State.angleWrites_done : (s.angleWrites).status.done = s.status.done := rfl
@[simp] theorem State.angleWrites_resValid : (s.angleWrites).status.resValid = s.status.resValid := rfl
@[simp] theorem State.angleWrites_peakValid : (s.angleWrites).status.peakValid = s.status.peakValid := rfl
@[simp] theorem State.angleWrites_angleValid : (s.angleWrites).status.angleValid = true := rfl
@[simp] theorem State.angleWrites_frameRdy : (s.angleWrites).status.frameRdy = s.status.frameRdy := rfl
@[simp] theorem State.angleWrites_resMode : (s.angleWrites).status.resMode = s.status.resMode := rfl
@[simp] theorem State.angleWrites_error : (s.angleWrites).error = s.error := rfl
@[simp] theorem State.angleWrites_buf : (s.angleWrites).buf = s.buf := rfl
@[simp] theorem State.angleWrites_ingest : (s.angleWrites).ingest = s.ingest := rfl
@[simp] theorem State.angleWrites_peak : (s.angleWrites).peak = s.peak := rfl
@[simp] theorem State.angleWrites_time : (s.angleWrites).time = s.time := rfl
@[simp] theorem State.angleWrites_eng : (s.angleWrites).eng = s.eng := rfl
@[simp] theorem State.angleWrites_ramA : (s.angleWrites).ramA = s.ramA := rfl
@[simp] theorem State.angleWrites_ramB : (s.angleWrites).ramB = s.ramB := rfl
@[simp] theorem State.angleWrites_res : (s.angleWrites).res = s.res := rfl
@[simp] theorem State.angleWrites_lut : (s.angleWrites).lut = s.lut := rfl
@[simp] theorem State.angleWrites_n : (s.angleWrites).n = s.n := rfl
@[simp] theorem State.angleWrites_buffersFull : (s.angleWrites).buffersFull = s.buffersFull := rfl
@[simp] theorem State.angleWrites_geometryValid : (s.angleWrites).geometryValid = s.geometryValid := rfl
@[simp] theorem State.angleWrites_readA (j : Nat) : (s.angleWrites).readA j = s.readA j := rfl
@[simp] theorem State.angleWrites_readB (j : Nat) : (s.angleWrites).readB j = s.readB j := rfl
@[simp] theorem State.angleWrites_readRes (j : Nat) : (s.angleWrites).readRes j = s.readRes j := rfl
@[simp] theorem State.angleWrites_readLut (j : Nat) : (s.angleWrites).readLut j = s.readLut j := rfl

end

section -- startRun
variable (s : State)

@[simp] theorem State.startRun_build : (s.startRun).build = s.build := rfl
@[simp] theorem State.startRun_env : (s.startRun).env = s.env := rfl
@[simp] theorem State.startRun_cfg : (s.startRun).cfg = s.cfg := rfl
@[simp] theorem State.startRun_stage : (s.startRun).status.stage = .corr := rfl
@[simp] theorem State.startRun_done : (s.startRun).status.done = false := rfl
@[simp] theorem State.startRun_resValid : (s.startRun).status.resValid = false := rfl
@[simp] theorem State.startRun_peakValid : (s.startRun).status.peakValid = false := rfl
@[simp] theorem State.startRun_angleValid : (s.startRun).status.angleValid = false := rfl
@[simp] theorem State.startRun_sat : (s.startRun).status.sat = false := rfl
@[simp] theorem State.startRun_frameRdy : (s.startRun).status.frameRdy = false := rfl
@[simp] theorem State.startRun_resMode : (s.startRun).status.resMode = s.status.resMode := rfl
@[simp] theorem State.startRun_error : (s.startRun).error = s.error := rfl
@[simp] theorem State.startRun_buf : (s.startRun).buf = s.buf := rfl
@[simp] theorem State.startRun_ingest : (s.startRun).ingest = s.ingest := rfl
@[simp] theorem State.startRun_peak : (s.startRun).peak = s.peak := rfl
@[simp] theorem State.startRun_angle : (s.startRun).angle = s.angle := rfl
@[simp] theorem State.startRun_cycle : (s.startRun).time.cycle = s.time.cycle := rfl
@[simp] theorem State.startRun_t0 : (s.startRun).time.t0 = s.time.cycle := rfl
@[simp] theorem State.startRun_t1 : (s.startRun).time.t1 = s.time.t1 := rfl
@[simp] theorem State.startRun_chain : (s.startRun).eng.chain = .run := rfl
@[simp] theorem State.startRun_mode : (s.startRun).eng.mode = s.ctrlMode := rfl
@[simp] theorem State.startRun_src : (s.startRun).eng.src = .peak := rfl
@[simp] theorem State.startRun_sel : (s.startRun).eng.sel = s.peakSel := rfl
@[simp] theorem State.startRun_amode : (s.startRun).eng.amode = s.angleMode := rfl
@[simp] theorem State.startRun_imm : (s.startRun).eng.imm = s.eng.imm := rfl
@[simp] theorem State.startRun_ramA : (s.startRun).ramA = s.ramA := rfl
@[simp] theorem State.startRun_ramB : (s.startRun).ramB = s.ramB := rfl
@[simp] theorem State.startRun_res : (s.startRun).res = s.res := rfl
@[simp] theorem State.startRun_lut : (s.startRun).lut = s.lut := rfl
@[simp] theorem State.startRun_n : (s.startRun).n = s.n := rfl
@[simp] theorem State.startRun_buffersFull : (s.startRun).buffersFull = s.buffersFull := rfl
@[simp] theorem State.startRun_geometryValid : (s.startRun).geometryValid = s.geometryValid := rfl
@[simp] theorem State.startRun_readA (j : Nat) : (s.startRun).readA j = s.readA j := rfl
@[simp] theorem State.startRun_readB (j : Nat) : (s.startRun).readB j = s.readB j := rfl
@[simp] theorem State.startRun_readRes (j : Nat) : (s.startRun).readRes j = s.readRes j := rfl
@[simp] theorem State.startRun_readLut (j : Nat) : (s.startRun).readLut j = s.readLut j := rfl

end

section -- clearBuffers
variable (s : State)

@[simp] theorem State.clearBuffers_build : (s.clearBuffers).build = s.build := rfl
@[simp] theorem State.clearBuffers_env : (s.clearBuffers).env = s.env := rfl
@[simp] theorem State.clearBuffers_cfg : (s.clearBuffers).cfg = s.cfg := rfl
@[simp] theorem State.clearBuffers_stage : (s.clearBuffers).status.stage = s.status.stage := rfl
@[simp] theorem State.clearBuffers_done : (s.clearBuffers).status.done = s.status.done := rfl
@[simp] theorem State.clearBuffers_resValid : (s.clearBuffers).status.resValid = false := rfl
@[simp] theorem State.clearBuffers_peakValid : (s.clearBuffers).status.peakValid = false := rfl
@[simp] theorem State.clearBuffers_angleValid : (s.clearBuffers).status.angleValid = false := rfl
@[simp] theorem State.clearBuffers_sat : (s.clearBuffers).status.sat = false := rfl
@[simp] theorem State.clearBuffers_frameRdy : (s.clearBuffers).status.frameRdy = false := rfl
@[simp] theorem State.clearBuffers_resMode : (s.clearBuffers).status.resMode = s.status.resMode := rfl
@[simp] theorem State.clearBuffers_error : (s.clearBuffers).error = s.error := rfl
@[simp] theorem State.clearBuffers_aCount : (s.clearBuffers).buf.aCount = 0 := rfl
@[simp] theorem State.clearBuffers_bCount : (s.clearBuffers).buf.bCount = 0 := rfl
@[simp] theorem State.clearBuffers_ingest : (s.clearBuffers).ingest = s.ingest := rfl
@[simp] theorem State.clearBuffers_peak : (s.clearBuffers).peak = s.peak := rfl
@[simp] theorem State.clearBuffers_angle : (s.clearBuffers).angle = s.angle := rfl
@[simp] theorem State.clearBuffers_time : (s.clearBuffers).time = s.time := rfl
@[simp] theorem State.clearBuffers_eng : (s.clearBuffers).eng = s.eng := rfl
@[simp] theorem State.clearBuffers_ramA : (s.clearBuffers).ramA = s.ramA := rfl
@[simp] theorem State.clearBuffers_ramB : (s.clearBuffers).ramB = s.ramB := rfl
@[simp] theorem State.clearBuffers_res : (s.clearBuffers).res = s.res := rfl
@[simp] theorem State.clearBuffers_lut : (s.clearBuffers).lut = s.lut := rfl
@[simp] theorem State.clearBuffers_n : (s.clearBuffers).n = s.n := rfl
@[simp] theorem State.clearBuffers_geometryValid : (s.clearBuffers).geometryValid = s.geometryValid := rfl
@[simp] theorem State.clearBuffers_readA (j : Nat) : (s.clearBuffers).readA j = s.readA j := rfl
@[simp] theorem State.clearBuffers_readB (j : Nat) : (s.clearBuffers).readB j = s.readB j := rfl
@[simp] theorem State.clearBuffers_readRes (j : Nat) : (s.clearBuffers).readRes j = s.readRes j := rfl
@[simp] theorem State.clearBuffers_readLut (j : Nat) : (s.clearBuffers).readLut j = s.readLut j := rfl

end

section -- acknowledge
variable (s : State)

@[simp] theorem State.acknowledge_build : (s.acknowledge).build = s.build := rfl
@[simp] theorem State.acknowledge_env : (s.acknowledge).env = s.env := rfl
@[simp] theorem State.acknowledge_cfg : (s.acknowledge).cfg = s.cfg := rfl
@[simp] theorem State.acknowledge_stage : (s.acknowledge).status.stage = s.status.stage := rfl
@[simp] theorem State.acknowledge_done : (s.acknowledge).status.done = false := rfl
@[simp] theorem State.acknowledge_resValid : (s.acknowledge).status.resValid = s.status.resValid := rfl
@[simp] theorem State.acknowledge_peakValid : (s.acknowledge).status.peakValid = s.status.peakValid := rfl
@[simp] theorem State.acknowledge_angleValid : (s.acknowledge).status.angleValid = s.status.angleValid := rfl
@[simp] theorem State.acknowledge_sat : (s.acknowledge).status.sat = s.status.sat := rfl
@[simp] theorem State.acknowledge_frameRdy : (s.acknowledge).status.frameRdy = false := rfl
@[simp] theorem State.acknowledge_resMode : (s.acknowledge).status.resMode = s.status.resMode := rfl
@[simp] theorem State.acknowledge_error : (s.acknowledge).error = s.error := rfl
@[simp] theorem State.acknowledge_buf : (s.acknowledge).buf = s.buf := rfl
@[simp] theorem State.acknowledge_ingest : (s.acknowledge).ingest = s.ingest := rfl
@[simp] theorem State.acknowledge_peak : (s.acknowledge).peak = s.peak := rfl
@[simp] theorem State.acknowledge_angle : (s.acknowledge).angle = s.angle := rfl
@[simp] theorem State.acknowledge_time : (s.acknowledge).time = s.time := rfl
@[simp] theorem State.acknowledge_eng : (s.acknowledge).eng = s.eng := rfl
@[simp] theorem State.acknowledge_ramA : (s.acknowledge).ramA = s.ramA := rfl
@[simp] theorem State.acknowledge_ramB : (s.acknowledge).ramB = s.ramB := rfl
@[simp] theorem State.acknowledge_res : (s.acknowledge).res = s.res := rfl
@[simp] theorem State.acknowledge_lut : (s.acknowledge).lut = s.lut := rfl
@[simp] theorem State.acknowledge_n : (s.acknowledge).n = s.n := rfl
@[simp] theorem State.acknowledge_buffersFull : (s.acknowledge).buffersFull = s.buffersFull := rfl
@[simp] theorem State.acknowledge_geometryValid : (s.acknowledge).geometryValid = s.geometryValid := rfl
@[simp] theorem State.acknowledge_readA (j : Nat) : (s.acknowledge).readA j = s.readA j := rfl
@[simp] theorem State.acknowledge_readB (j : Nat) : (s.acknowledge).readB j = s.readB j := rfl
@[simp] theorem State.acknowledge_readRes (j : Nat) : (s.acknowledge).readRes j = s.readRes j := rfl
@[simp] theorem State.acknowledge_readLut (j : Nat) : (s.acknowledge).readLut j = s.readLut j := rfl

end

section -- flushFifo
variable (s : State)

@[simp] theorem State.flushFifo_build : (s.flushFifo).build = s.build := rfl
@[simp] theorem State.flushFifo_env : (s.flushFifo).env = s.env := rfl
@[simp] theorem State.flushFifo_cfg : (s.flushFifo).cfg = s.cfg := rfl
@[simp] theorem State.flushFifo_status : (s.flushFifo).status = s.status := rfl
@[simp] theorem State.flushFifo_error : (s.flushFifo).error = s.error := rfl
@[simp] theorem State.flushFifo_buf : (s.flushFifo).buf = s.buf := rfl
@[simp] theorem State.flushFifo_fifo : (s.flushFifo).ingest.fifo = [] := rfl
@[simp] theorem State.flushFifo_frameCount : (s.flushFifo).ingest.frameCount = s.ingest.frameCount := rfl
@[simp] theorem State.flushFifo_resyncCount : (s.flushFifo).ingest.resyncCount = s.ingest.resyncCount := rfl
@[simp] theorem State.flushFifo_peak : (s.flushFifo).peak = s.peak := rfl
@[simp] theorem State.flushFifo_angle : (s.flushFifo).angle = s.angle := rfl
@[simp] theorem State.flushFifo_time : (s.flushFifo).time = s.time := rfl
@[simp] theorem State.flushFifo_eng : (s.flushFifo).eng = s.eng := rfl
@[simp] theorem State.flushFifo_ramA : (s.flushFifo).ramA = s.ramA := rfl
@[simp] theorem State.flushFifo_ramB : (s.flushFifo).ramB = s.ramB := rfl
@[simp] theorem State.flushFifo_res : (s.flushFifo).res = s.res := rfl
@[simp] theorem State.flushFifo_lut : (s.flushFifo).lut = s.lut := rfl
@[simp] theorem State.flushFifo_n : (s.flushFifo).n = s.n := rfl
@[simp] theorem State.flushFifo_busy : (s.flushFifo).busy = s.busy := rfl
@[simp] theorem State.flushFifo_buffersFull : (s.flushFifo).buffersFull = s.buffersFull := rfl
@[simp] theorem State.flushFifo_geometryValid : (s.flushFifo).geometryValid = s.geometryValid := rfl
@[simp] theorem State.flushFifo_readA (j : Nat) : (s.flushFifo).readA j = s.readA j := rfl
@[simp] theorem State.flushFifo_readB (j : Nat) : (s.flushFifo).readB j = s.readB j := rfl
@[simp] theorem State.flushFifo_readRes (j : Nat) : (s.flushFifo).readRes j = s.readRes j := rfl
@[simp] theorem State.flushFifo_readLut (j : Nat) : (s.flushFifo).readLut j = s.readLut j := rfl

end

section -- appendByte
variable (s : State) (b : Byte)

@[simp] theorem State.appendByte_build : (s.appendByte b).build = s.build := rfl
@[simp] theorem State.appendByte_env : (s.appendByte b).env = s.env := rfl
@[simp] theorem State.appendByte_cfg : (s.appendByte b).cfg = s.cfg := rfl
@[simp] theorem State.appendByte_status : (s.appendByte b).status = s.status := rfl
@[simp] theorem State.appendByte_error : (s.appendByte b).error = s.error := rfl
@[simp] theorem State.appendByte_buf : (s.appendByte b).buf = s.buf := rfl
@[simp] theorem State.appendByte_fifo : (s.appendByte b).ingest.fifo = s.ingest.fifo ++ [b] := rfl
@[simp] theorem State.appendByte_frameCount : (s.appendByte b).ingest.frameCount = s.ingest.frameCount := rfl
@[simp] theorem State.appendByte_resyncCount : (s.appendByte b).ingest.resyncCount = s.ingest.resyncCount := rfl
@[simp] theorem State.appendByte_peak : (s.appendByte b).peak = s.peak := rfl
@[simp] theorem State.appendByte_angle : (s.appendByte b).angle = s.angle := rfl
@[simp] theorem State.appendByte_time : (s.appendByte b).time = s.time := rfl
@[simp] theorem State.appendByte_eng : (s.appendByte b).eng = s.eng := rfl
@[simp] theorem State.appendByte_ramA : (s.appendByte b).ramA = s.ramA := rfl
@[simp] theorem State.appendByte_ramB : (s.appendByte b).ramB = s.ramB := rfl
@[simp] theorem State.appendByte_res : (s.appendByte b).res = s.res := rfl
@[simp] theorem State.appendByte_lut : (s.appendByte b).lut = s.lut := rfl
@[simp] theorem State.appendByte_n : (s.appendByte b).n = s.n := rfl
@[simp] theorem State.appendByte_busy : (s.appendByte b).busy = s.busy := rfl
@[simp] theorem State.appendByte_buffersFull : (s.appendByte b).buffersFull = s.buffersFull := rfl
@[simp] theorem State.appendByte_geometryValid : (s.appendByte b).geometryValid = s.geometryValid := rfl
@[simp] theorem State.appendByte_readA (j : Nat) : (s.appendByte b).readA j = s.readA j := rfl
@[simp] theorem State.appendByte_readB (j : Nat) : (s.appendByte b).readB j = s.readB j := rfl
@[simp] theorem State.appendByte_readRes (j : Nat) : (s.appendByte b).readRes j = s.readRes j := rfl
@[simp] theorem State.appendByte_readLut (j : Nat) : (s.appendByte b).readLut j = s.readLut j := rfl

end

section -- discardByte
variable (s : State)

@[simp] theorem State.discardByte_build : (s.discardByte).build = s.build := rfl
@[simp] theorem State.discardByte_env : (s.discardByte).env = s.env := rfl
@[simp] theorem State.discardByte_cfg : (s.discardByte).cfg = s.cfg := rfl
@[simp] theorem State.discardByte_status : (s.discardByte).status = s.status := rfl
@[simp] theorem State.discardByte_error : (s.discardByte).error = s.error := rfl
@[simp] theorem State.discardByte_buf : (s.discardByte).buf = s.buf := rfl
@[simp] theorem State.discardByte_fifo : (s.discardByte).ingest.fifo = s.ingest.fifo.drop 1 := rfl
@[simp] theorem State.discardByte_frameCount : (s.discardByte).ingest.frameCount = s.ingest.frameCount := rfl
@[simp] theorem State.discardByte_resyncCount : (s.discardByte).ingest.resyncCount = s.ingest.resyncCount + 1 := rfl
@[simp] theorem State.discardByte_peak : (s.discardByte).peak = s.peak := rfl
@[simp] theorem State.discardByte_angle : (s.discardByte).angle = s.angle := rfl
@[simp] theorem State.discardByte_time : (s.discardByte).time = s.time := rfl
@[simp] theorem State.discardByte_eng : (s.discardByte).eng = s.eng := rfl
@[simp] theorem State.discardByte_ramA : (s.discardByte).ramA = s.ramA := rfl
@[simp] theorem State.discardByte_ramB : (s.discardByte).ramB = s.ramB := rfl
@[simp] theorem State.discardByte_res : (s.discardByte).res = s.res := rfl
@[simp] theorem State.discardByte_lut : (s.discardByte).lut = s.lut := rfl
@[simp] theorem State.discardByte_n : (s.discardByte).n = s.n := rfl
@[simp] theorem State.discardByte_busy : (s.discardByte).busy = s.busy := rfl
@[simp] theorem State.discardByte_buffersFull : (s.discardByte).buffersFull = s.buffersFull := rfl
@[simp] theorem State.discardByte_geometryValid : (s.discardByte).geometryValid = s.geometryValid := rfl
@[simp] theorem State.discardByte_readA (j : Nat) : (s.discardByte).readA j = s.readA j := rfl
@[simp] theorem State.discardByte_readB (j : Nat) : (s.discardByte).readB j = s.readB j := rfl
@[simp] theorem State.discardByte_readRes (j : Nat) : (s.discardByte).readRes j = s.readRes j := rfl
@[simp] theorem State.discardByte_readLut (j : Nat) : (s.discardByte).readLut j = s.readLut j := rfl

end

section -- startLoad
variable (s : State)

@[simp] theorem State.startLoad_build : (s.startLoad).build = s.build := rfl
@[simp] theorem State.startLoad_env : (s.startLoad).env = s.env := rfl
@[simp] theorem State.startLoad_cfg : (s.startLoad).cfg = s.cfg := rfl
@[simp] theorem State.startLoad_stage : (s.startLoad).status.stage = .load := rfl
@[simp] theorem State.startLoad_done : (s.startLoad).status.done = s.status.done := rfl
@[simp] theorem State.startLoad_resValid : (s.startLoad).status.resValid = s.status.resValid := rfl
@[simp] theorem State.startLoad_peakValid : (s.startLoad).status.peakValid = s.status.peakValid := rfl
@[simp] theorem State.startLoad_angleValid : (s.startLoad).status.angleValid = s.status.angleValid := rfl
@[simp] theorem State.startLoad_sat : (s.startLoad).status.sat = s.status.sat := rfl
@[simp] theorem State.startLoad_frameRdy : (s.startLoad).status.frameRdy = s.status.frameRdy := rfl
@[simp] theorem State.startLoad_resMode : (s.startLoad).status.resMode = s.status.resMode := rfl
@[simp] theorem State.startLoad_error : (s.startLoad).error = s.error := rfl
@[simp] theorem State.startLoad_buf : (s.startLoad).buf = s.buf := rfl
@[simp] theorem State.startLoad_fifo : (s.startLoad).ingest.fifo = s.ingest.fifo.drop 2 := rfl
@[simp] theorem State.startLoad_frameCount : (s.startLoad).ingest.frameCount = s.ingest.frameCount := rfl
@[simp] theorem State.startLoad_resyncCount : (s.startLoad).ingest.resyncCount = s.ingest.resyncCount := rfl
@[simp] theorem State.startLoad_peak : (s.startLoad).peak = s.peak := rfl
@[simp] theorem State.startLoad_angle : (s.startLoad).angle = s.angle := rfl
@[simp] theorem State.startLoad_time : (s.startLoad).time = s.time := rfl
@[simp] theorem State.startLoad_eng : (s.startLoad).eng = s.eng := rfl
@[simp] theorem State.startLoad_ramA : (s.startLoad).ramA = s.ramA := rfl
@[simp] theorem State.startLoad_ramB : (s.startLoad).ramB = s.ramB := rfl
@[simp] theorem State.startLoad_res : (s.startLoad).res = s.res := rfl
@[simp] theorem State.startLoad_lut : (s.startLoad).lut = s.lut := rfl
@[simp] theorem State.startLoad_n : (s.startLoad).n = s.n := rfl
@[simp] theorem State.startLoad_buffersFull : (s.startLoad).buffersFull = s.buffersFull := rfl
@[simp] theorem State.startLoad_geometryValid : (s.startLoad).geometryValid = s.geometryValid := rfl
@[simp] theorem State.startLoad_readA (j : Nat) : (s.startLoad).readA j = s.readA j := rfl
@[simp] theorem State.startLoad_readB (j : Nat) : (s.startLoad).readB j = s.readB j := rfl
@[simp] theorem State.startLoad_readRes (j : Nat) : (s.startLoad).readRes j = s.readRes j := rfl
@[simp] theorem State.startLoad_readLut (j : Nat) : (s.startLoad).readLut j = s.readLut j := rfl

end

section -- loadWrites
variable (s : State)

@[simp] theorem State.loadWrites_build : (s.loadWrites).build = s.build := rfl
@[simp] theorem State.loadWrites_env : (s.loadWrites).env = s.env := rfl
@[simp] theorem State.loadWrites_cfg : (s.loadWrites).cfg = s.cfg := rfl
@[simp] theorem State.loadWrites_stage : (s.loadWrites).status.stage = s.status.stage := rfl
@[simp] theorem State.loadWrites_done : (s.loadWrites).status.done = s.status.done := rfl
@[simp] theorem State.loadWrites_resValid : (s.loadWrites).status.resValid = false := rfl
@[simp] theorem State.loadWrites_peakValid : (s.loadWrites).status.peakValid = false := rfl
@[simp] theorem State.loadWrites_angleValid : (s.loadWrites).status.angleValid = false := rfl
@[simp] theorem State.loadWrites_sat : (s.loadWrites).status.sat = false := rfl
@[simp] theorem State.loadWrites_frameRdy : (s.loadWrites).status.frameRdy = true := rfl
@[simp] theorem State.loadWrites_resMode : (s.loadWrites).status.resMode = s.status.resMode := rfl
@[simp] theorem State.loadWrites_error : (s.loadWrites).error = s.error := rfl
@[simp] theorem State.loadWrites_aCount : (s.loadWrites).buf.aCount = BitVec.ofNat 11 s.n := rfl
@[simp] theorem State.loadWrites_bCount : (s.loadWrites).buf.bCount = BitVec.ofNat 11 s.n := rfl
@[simp] theorem State.loadWrites_fifo : (s.loadWrites).ingest.fifo = s.ingest.fifo.drop (2 * s.n) := rfl
@[simp] theorem State.loadWrites_frameCount : (s.loadWrites).ingest.frameCount = s.ingest.frameCount + 1 := rfl
@[simp] theorem State.loadWrites_resyncCount : (s.loadWrites).ingest.resyncCount = s.ingest.resyncCount := rfl
@[simp] theorem State.loadWrites_peak : (s.loadWrites).peak = s.peak := rfl
@[simp] theorem State.loadWrites_angle : (s.loadWrites).angle = s.angle := rfl
@[simp] theorem State.loadWrites_time : (s.loadWrites).time = s.time := rfl
@[simp] theorem State.loadWrites_eng : (s.loadWrites).eng = s.eng := rfl
@[simp] theorem State.loadWrites_ramA : (s.loadWrites).ramA = Ram.setFrom s.ramA 0 (s.ingest.fifo.take s.n) := rfl
@[simp] theorem State.loadWrites_ramB : (s.loadWrites).ramB = Ram.setFrom s.ramB 0 ((s.ingest.fifo.drop s.n).take s.n) := rfl
@[simp] theorem State.loadWrites_res : (s.loadWrites).res = s.res := rfl
@[simp] theorem State.loadWrites_lut : (s.loadWrites).lut = s.lut := rfl
@[simp] theorem State.loadWrites_n : (s.loadWrites).n = s.n := rfl
@[simp] theorem State.loadWrites_geometryValid : (s.loadWrites).geometryValid = s.geometryValid := rfl
@[simp] theorem State.loadWrites_readRes (j : Nat) : (s.loadWrites).readRes j = s.readRes j := rfl
@[simp] theorem State.loadWrites_readLut (j : Nat) : (s.loadWrites).readLut j = s.readLut j := rfl

end

section -- respond
variable (s : State) (r : Response)

@[simp] theorem State.respond_build : (s.respond r).build = s.build := rfl
@[simp] theorem State.respond_rstN : (s.respond r).env.rstN = s.env.rstN := rfl
@[simp] theorem State.respond_schedule : (s.respond r).env.schedule = s.env.schedule := rfl
@[simp] theorem State.respond_hostProgram : (s.respond r).env.hostProgram = s.env.hostProgram := rfl
@[simp] theorem State.respond_streamSource : (s.respond r).env.streamSource = s.env.streamSource := rfl
@[simp] theorem State.respond_resp : (s.respond r).env.resp = r := rfl
@[simp] theorem State.respond_draws : (s.respond r).env.draws = s.env.draws := rfl
@[simp] theorem State.respond_resets : (s.respond r).env.resets = s.env.resets := rfl
@[simp] theorem State.respond_cfg : (s.respond r).cfg = s.cfg := rfl
@[simp] theorem State.respond_status : (s.respond r).status = s.status := rfl
@[simp] theorem State.respond_error : (s.respond r).error = s.error := rfl
@[simp] theorem State.respond_buf : (s.respond r).buf = s.buf := rfl
@[simp] theorem State.respond_ingest : (s.respond r).ingest = s.ingest := rfl
@[simp] theorem State.respond_peak : (s.respond r).peak = s.peak := rfl
@[simp] theorem State.respond_angle : (s.respond r).angle = s.angle := rfl
@[simp] theorem State.respond_time : (s.respond r).time = s.time := rfl
@[simp] theorem State.respond_eng : (s.respond r).eng = s.eng := rfl
@[simp] theorem State.respond_ramA : (s.respond r).ramA = s.ramA := rfl
@[simp] theorem State.respond_ramB : (s.respond r).ramB = s.ramB := rfl
@[simp] theorem State.respond_res : (s.respond r).res = s.res := rfl
@[simp] theorem State.respond_lut : (s.respond r).lut = s.lut := rfl
@[simp] theorem State.respond_n : (s.respond r).n = s.n := rfl
@[simp] theorem State.respond_busy : (s.respond r).busy = s.busy := rfl
@[simp] theorem State.respond_buffersFull : (s.respond r).buffersFull = s.buffersFull := rfl
@[simp] theorem State.respond_geometryValid : (s.respond r).geometryValid = s.geometryValid := rfl
@[simp] theorem State.respond_readA (j : Nat) : (s.respond r).readA j = s.readA j := rfl
@[simp] theorem State.respond_readB (j : Nat) : (s.respond r).readB j = s.readB j := rfl
@[simp] theorem State.respond_readRes (j : Nat) : (s.respond r).readRes j = s.readRes j := rfl
@[simp] theorem State.respond_readLut (j : Nat) : (s.respond r).readLut j = s.readLut j := rfl

end

section -- programLeft
variable (s : State) (rest : List HostAction)

@[simp] theorem State.programLeft_build : (s.programLeft rest).build = s.build := rfl
@[simp] theorem State.programLeft_rstN : (s.programLeft rest).env.rstN = s.env.rstN := rfl
@[simp] theorem State.programLeft_schedule : (s.programLeft rest).env.schedule = s.env.schedule := rfl
@[simp] theorem State.programLeft_hostProgram : (s.programLeft rest).env.hostProgram = rest := rfl
@[simp] theorem State.programLeft_streamSource : (s.programLeft rest).env.streamSource = s.env.streamSource := rfl
@[simp] theorem State.programLeft_resp : (s.programLeft rest).env.resp = s.env.resp := rfl
@[simp] theorem State.programLeft_draws : (s.programLeft rest).env.draws = s.env.draws := rfl
@[simp] theorem State.programLeft_resets : (s.programLeft rest).env.resets = s.env.resets := rfl
@[simp] theorem State.programLeft_cfg : (s.programLeft rest).cfg = s.cfg := rfl
@[simp] theorem State.programLeft_status : (s.programLeft rest).status = s.status := rfl
@[simp] theorem State.programLeft_error : (s.programLeft rest).error = s.error := rfl
@[simp] theorem State.programLeft_buf : (s.programLeft rest).buf = s.buf := rfl
@[simp] theorem State.programLeft_ingest : (s.programLeft rest).ingest = s.ingest := rfl
@[simp] theorem State.programLeft_peak : (s.programLeft rest).peak = s.peak := rfl
@[simp] theorem State.programLeft_angle : (s.programLeft rest).angle = s.angle := rfl
@[simp] theorem State.programLeft_time : (s.programLeft rest).time = s.time := rfl
@[simp] theorem State.programLeft_eng : (s.programLeft rest).eng = s.eng := rfl
@[simp] theorem State.programLeft_ramA : (s.programLeft rest).ramA = s.ramA := rfl
@[simp] theorem State.programLeft_ramB : (s.programLeft rest).ramB = s.ramB := rfl
@[simp] theorem State.programLeft_res : (s.programLeft rest).res = s.res := rfl
@[simp] theorem State.programLeft_lut : (s.programLeft rest).lut = s.lut := rfl
@[simp] theorem State.programLeft_n : (s.programLeft rest).n = s.n := rfl
@[simp] theorem State.programLeft_busy : (s.programLeft rest).busy = s.busy := rfl
@[simp] theorem State.programLeft_buffersFull : (s.programLeft rest).buffersFull = s.buffersFull := rfl
@[simp] theorem State.programLeft_geometryValid : (s.programLeft rest).geometryValid = s.geometryValid := rfl
@[simp] theorem State.programLeft_readA (j : Nat) : (s.programLeft rest).readA j = s.readA j := rfl
@[simp] theorem State.programLeft_readB (j : Nat) : (s.programLeft rest).readB j = s.readB j := rfl
@[simp] theorem State.programLeft_readRes (j : Nat) : (s.programLeft rest).readRes j = s.readRes j := rfl
@[simp] theorem State.programLeft_readLut (j : Nat) : (s.programLeft rest).readLut j = s.readLut j := rfl

end

section -- tick
variable (s : State)

@[simp] theorem State.tick_build : (s.tick).build = s.build := rfl
@[simp] theorem State.tick_rstN : (s.tick).env.rstN = s.env.rstN := rfl
@[simp] theorem State.tick_schedule : (s.tick).env.schedule = s.env.schedule := rfl
@[simp] theorem State.tick_hostProgram : (s.tick).env.hostProgram = s.env.hostProgram := rfl
@[simp] theorem State.tick_streamSource : (s.tick).env.streamSource = s.env.streamSource := rfl
@[simp] theorem State.tick_resp : (s.tick).env.resp = s.env.resp := rfl
@[simp] theorem State.tick_draws : (s.tick).env.draws = s.env.draws + 1 := rfl
@[simp] theorem State.tick_resets : (s.tick).env.resets = s.env.resets := rfl
@[simp] theorem State.tick_cfg : (s.tick).cfg = s.cfg := rfl
@[simp] theorem State.tick_status : (s.tick).status = s.status := rfl
@[simp] theorem State.tick_error : (s.tick).error = s.error := rfl
@[simp] theorem State.tick_buf : (s.tick).buf = s.buf := rfl
@[simp] theorem State.tick_ingest : (s.tick).ingest = s.ingest := rfl
@[simp] theorem State.tick_peak : (s.tick).peak = s.peak := rfl
@[simp] theorem State.tick_angle : (s.tick).angle = s.angle := rfl
@[simp] theorem State.tick_cycle : (s.tick).time.cycle = Config.cycleDraw s.env.draws := rfl
@[simp] theorem State.tick_t0 : (s.tick).time.t0 = s.time.t0 := rfl
@[simp] theorem State.tick_t1 : (s.tick).time.t1 = s.time.t1 := rfl
@[simp] theorem State.tick_eng : (s.tick).eng = s.eng := rfl
@[simp] theorem State.tick_ramA : (s.tick).ramA = s.ramA := rfl
@[simp] theorem State.tick_ramB : (s.tick).ramB = s.ramB := rfl
@[simp] theorem State.tick_res : (s.tick).res = s.res := rfl
@[simp] theorem State.tick_lut : (s.tick).lut = s.lut := rfl
@[simp] theorem State.tick_n : (s.tick).n = s.n := rfl
@[simp] theorem State.tick_busy : (s.tick).busy = s.busy := rfl
@[simp] theorem State.tick_buffersFull : (s.tick).buffersFull = s.buffersFull := rfl
@[simp] theorem State.tick_geometryValid : (s.tick).geometryValid = s.geometryValid := rfl
@[simp] theorem State.tick_readA (j : Nat) : (s.tick).readA j = s.readA j := rfl
@[simp] theorem State.tick_readB (j : Nat) : (s.tick).readB j = s.readB j := rfl
@[simp] theorem State.tick_readRes (j : Nat) : (s.tick).readRes j = s.readRes j := rfl
@[simp] theorem State.tick_readLut (j : Nat) : (s.tick).readLut j = s.readLut j := rfl

end

section -- softReset
variable (s : State)

@[simp] theorem State.softReset_build : (s.softReset).build = s.build := rfl
@[simp] theorem State.softReset_env : (s.softReset).env = s.env := rfl
@[simp] theorem State.softReset_cfg : (s.softReset).cfg = s.cfg := rfl
@[simp] theorem State.softReset_aCount : (s.softReset).buf.aCount = 0 := rfl
@[simp] theorem State.softReset_bCount : (s.softReset).buf.bCount = 0 := rfl
@[simp] theorem State.softReset_cycle : (s.softReset).time.cycle = s.time.cycle := rfl
@[simp] theorem State.softReset_t0 : (s.softReset).time.t0 = 0 := rfl
@[simp] theorem State.softReset_t1 : (s.softReset).time.t1 = 0 := rfl
@[simp] theorem State.softReset_eng : (s.softReset).eng = s.eng := rfl
@[simp] theorem State.softReset_ramA : (s.softReset).ramA = s.ramA := rfl
@[simp] theorem State.softReset_ramB : (s.softReset).ramB = s.ramB := rfl
@[simp] theorem State.softReset_res : (s.softReset).res = s.res := rfl
@[simp] theorem State.softReset_lut : (s.softReset).lut = s.lut := rfl
@[simp] theorem State.softReset_n : (s.softReset).n = s.n := rfl
@[simp] theorem State.softReset_geometryValid : (s.softReset).geometryValid = s.geometryValid := rfl
@[simp] theorem State.softReset_readA (j : Nat) : (s.softReset).readA j = s.readA j := rfl
@[simp] theorem State.softReset_readB (j : Nat) : (s.softReset).readB j = s.readB j := rfl
@[simp] theorem State.softReset_readRes (j : Nat) : (s.softReset).readRes j = s.readRes j := rfl
@[simp] theorem State.softReset_readLut (j : Nat) : (s.softReset).readLut j = s.readLut j := rfl

end

end Sys2Proof.Machine
end

