-- ==== Sys2Proof/Laws/Issue.lean ====
section
/-! SUPPORT. What the issue of a command can do (44_control.md R211), and what each meaning is when it is accepted. -/

namespace Sys2Proof.Machine

theorem State.busy_eq_false {s : State} : s.busy = false ↔ s.status.stage = .idle := by simp [State.busy]
theorem State.busy_eq_true {s : State} : s.busy = true ↔ s.status.stage ≠ .idle := by simp [State.busy]

/-- Everything the issue of a command can do. -/
theorem State.issue_next {i : Instr} {check : State → Option Cause} {effect : State → State} {s t : State}
    (h : s.issue i check effect = .next t) :
    (s.busy = true ∧ t = s.recordErr .cmdBusy (encode i)) ∨
    (s.busy = false ∧ ∃ c, check s = some c ∧ t = s.recordErr c (encode i)) ∨
    (s.busy = false ∧ check s = none ∧ t = effect s) := by
  unfold State.issue at h
  cases hb : s.busy with
  | true => rw [hb, if_pos rfl] at h; cases h; exact .inl ⟨rfl, rfl⟩
  | false =>
    rw [hb, if_neg (by simp)] at h
    cases hc : check s with
    | some c => rw [hc] at h; cases h; exact .inr (.inl ⟨rfl, c, rfl, rfl⟩)
    | none => rw [hc] at h; cases h; exact .inr (.inr ⟨rfl, rfl, rfl⟩)

/-- An issue always answers a next state. -/
theorem State.issue_answers (i : Instr) (check : State → Option Cause) (effect : State → State) (s : State) :
    ∃ t, s.issue i check effect = .next t := by
  unfold State.issue
  split
  · exact ⟨_, rfl⟩
  · split <;> exact ⟨_, rfl⟩

theorem State.issue_busy {i : Instr} {check : State → Option Cause} {effect : State → State} {s : State}
    (h : s.busy = true) : s.issue i check effect = .next (s.recordErr .cmdBusy (encode i)) := by
  simp [State.issue, h]

theorem State.issue_rejected {i : Instr} {check : State → Option Cause} {effect : State → State} {s : State} {c : Cause}
    (h : s.busy = false) (hc : check s = some c) : s.issue i check effect = .next (s.recordErr c (encode i)) := by
  simp [State.issue, h, hc]

theorem State.issue_accepted {i : Instr} {check : State → Option Cause} {effect : State → State} {s : State}
    (h : s.busy = false) (hc : check s = none) : s.issue i check effect = .next (effect s) := by
  simp [State.issue, h, hc]

@[simp] theorem checkLength_eq_none {s : State} : checkLength s = none ↔ s.buffersFull = true := by
  simp [checkLength]
@[simp] theorem checkGeometry_eq_none {s : State} : checkGeometry s = none ↔ s.geometryValid = true := by
  simp [checkGeometry]
@[simp] theorem checkResult_eq_none {s : State} : checkResult s = none ↔ s.status.resValid = true := by
  simp [checkResult]
@[simp] theorem checkPeak_eq_none {s : State} : checkPeak s = none ↔ s.status.peakValid = true := by
  simp [checkPeak]
@[simp] theorem checkIndex_eq_none {imm : Nat} {s : State} :
    checkIndex imm s = none ↔ (imm : Int) ≤ 2 * (s.n : Int) - 2 := by
  simp [checkIndex]
@[simp] theorem firstFailure_eq_none {p q : State → Option Cause} {s : State} :
    firstFailure p q s = none ↔ p s = none ∧ q s = none := by
  unfold firstFailure; cases h : p s <;> simp

/-- What an accepted command does to the state: its checks passed and its effect happened. NOP has no checks. -/
def Accepted (i : Instr) (s t : State) : Prop :=
  match i with
  | .nop => t = s
  | .corrX => s.busy = false ∧ s.buffersFull = true ∧ t = s.startCorr .cross
  | .corrC => s.busy = false ∧ s.buffersFull = true ∧ t = s.startCorr .conv
  | .peak => s.busy = false ∧ s.status.resValid = true ∧ t = s.startPeak
  | .angle => s.busy = false ∧ s.status.peakValid = true ∧ s.geometryValid = true ∧ t = s.startAngle .peak 0
  | .angleI imm =>
    s.busy = false ∧ (imm : Int) ≤ 2 * (s.n : Int) - 2 ∧ s.geometryValid = true ∧
      t = s.startAngle .imm (BitVec.ofNat 11 imm)
  | .run => s.busy = false ∧ s.buffersFull = true ∧ s.geometryValid = true ∧ t = s.startRun
  | .clrbuf => s.busy = false ∧ t = s.clearBuffers
  | .ack => s.busy = false ∧ t = s.acknowledge
  | .flush => s.busy = false ∧ t = s.flushFifo
  | .sreset => s.busy = false ∧ t = s.softReset

/-- Everything a command can do: be rejected, with only the error record changed, or be accepted. -/
theorem exec_cases {i : Instr} {s t : State} (h : exec i s = .next t) :
    (∃ c, t = s.recordErr c (encode i)) ∨ Accepted i s t := by
  cases i with
  | nop => cases h; exact .inr rfl
  | corrX =>
    rcases State.issue_next h with ⟨_, rfl⟩ | ⟨_, c, _, rfl⟩ | ⟨hb, hc, rfl⟩
    · exact .inl ⟨_, rfl⟩
    · exact .inl ⟨_, rfl⟩
    · exact .inr ⟨hb, by simpa using hc, rfl⟩
  | corrC =>
    rcases State.issue_next h with ⟨_, rfl⟩ | ⟨_, c, _, rfl⟩ | ⟨hb, hc, rfl⟩
    · exact .inl ⟨_, rfl⟩
    · exact .inl ⟨_, rfl⟩
    · exact .inr ⟨hb, by simpa using hc, rfl⟩
  | peak =>
    rcases State.issue_next h with ⟨_, rfl⟩ | ⟨_, c, _, rfl⟩ | ⟨hb, hc, rfl⟩
    · exact .inl ⟨_, rfl⟩
    · exact .inl ⟨_, rfl⟩
    · exact .inr ⟨hb, by simpa using hc, rfl⟩
  | angle =>
    rcases State.issue_next h with ⟨_, rfl⟩ | ⟨_, c, _, rfl⟩ | ⟨hb, hc, rfl⟩
    · exact .inl ⟨_, rfl⟩
    · exact .inl ⟨_, rfl⟩
    · have := firstFailure_eq_none.1 hc; simp at this; exact .inr ⟨hb, this.1, this.2, rfl⟩
  | angleI imm =>
    rcases State.issue_next h with ⟨_, rfl⟩ | ⟨_, c, _, rfl⟩ | ⟨hb, hc, rfl⟩
    · exact .inl ⟨_, rfl⟩
    · exact .inl ⟨_, rfl⟩
    · have := firstFailure_eq_none.1 hc; simp at this; exact .inr ⟨hb, by simpa using this.1, this.2, rfl⟩
  | run =>
    rcases State.issue_next h with ⟨_, rfl⟩ | ⟨_, c, _, rfl⟩ | ⟨hb, hc, rfl⟩
    · exact .inl ⟨_, rfl⟩
    · exact .inl ⟨_, rfl⟩
    · have := firstFailure_eq_none.1 hc; simp at this; exact .inr ⟨hb, this.1, this.2, rfl⟩
  | clrbuf =>
    rcases State.issue_next (show s.issue .clrbuf noCheck State.clearBuffers = .next t from h) with ⟨_, rfl⟩ | ⟨_, c, hc, _⟩ | ⟨hb, _, rfl⟩
    · exact .inl ⟨_, rfl⟩
    · exact absurd hc (by simp [noCheck])
    · exact .inr ⟨hb, rfl⟩
  | ack =>
    rcases State.issue_next (show s.issue .ack noCheck State.acknowledge = .next t from h) with ⟨_, rfl⟩ | ⟨_, c, hc, _⟩ | ⟨hb, _, rfl⟩
    · exact .inl ⟨_, rfl⟩
    · exact absurd hc (by simp [noCheck])
    · exact .inr ⟨hb, rfl⟩
  | flush =>
    rcases State.issue_next (show s.issue .flush noCheck State.flushFifo = .next t from h) with ⟨_, rfl⟩ | ⟨_, c, hc, _⟩ | ⟨hb, _, rfl⟩
    · exact .inl ⟨_, rfl⟩
    · exact absurd hc (by simp [noCheck])
    · exact .inr ⟨hb, rfl⟩
  | sreset =>
    rcases State.issue_next (show s.issue .sreset noCheck State.softReset = .next t from h) with ⟨_, rfl⟩ | ⟨_, c, hc, _⟩ | ⟨hb, _, rfl⟩
    · exact .inl ⟨_, rfl⟩
    · exact absurd hc (by simp [noCheck])
    · exact .inr ⟨hb, rfl⟩

/-- Every command answers a next state in every state. -/
theorem exec_answers (i : Instr) (s : State) : ∃ t, exec i s = .next t := by
  cases i with
  | nop => exact ⟨s, rfl⟩
  | corrX => exact State.issue_answers .corrX checkLength _ s
  | corrC => exact State.issue_answers .corrC checkLength _ s
  | peak => exact State.issue_answers .peak checkResult _ s
  | angle => exact State.issue_answers .angle _ _ s
  | angleI imm => exact State.issue_answers (.angleI imm) _ _ s
  | run => exact State.issue_answers .run _ _ s
  | clrbuf => exact State.issue_answers .clrbuf noCheck State.clearBuffers s
  | ack => exact State.issue_answers .ack noCheck State.acknowledge s
  | flush => exact State.issue_answers .flush noCheck State.flushFifo s
  | sreset => exact State.issue_answers .sreset noCheck State.softReset s

end Sys2Proof.Machine
end

