-- ==== Sys2Proof/Laws/Ram.lean ====
section
/-! SUPPORT. What the RAM operations do: reads after writes, cells left alone, the canonical form kept (10_state.md R41 to R47). -/

namespace Sys2Proof.Machine

theorem Ram.find_set_same {w : Nat} (m : Cells w) (i : Nat) (v : BitVec w) : Ram.find (Ram.set m i v) i = some v := by
  induction m with
  | nil => simp [Ram.set, Ram.find]
  | cons p m ih =>
    obtain ⟨a, x⟩ := p
    by_cases h1 : i < a
    · simp [Ram.set, Ram.find, h1]
    · by_cases h2 : i = a
      · simp [Ram.set, Ram.find, h2]
      · simp [Ram.set, Ram.find, h1, h2, ih]

theorem Ram.find_set_other {w : Nat} (m : Cells w) {i j : Nat} (v : BitVec w) (h : j ≠ i) :
    Ram.find (Ram.set m i v) j = Ram.find m j := by
  induction m with
  | nil => simp [Ram.set, Ram.find, h]
  | cons p m ih =>
    obtain ⟨a, x⟩ := p
    by_cases h1 : i < a
    · simp [Ram.set, Ram.find, h1, h]
    · by_cases h2 : i = a
      · subst h2; simp [Ram.set, Ram.find, h]
      · simp [Ram.set, Ram.find, h1, h2, ih]

/-- A written block reads as the values written inside it and as before outside it. -/
theorem Ram.find_setFrom {w : Nat} (m : Cells w) (i j : Nat) (vs : List (BitVec w)) :
    Ram.find (Ram.setFrom m i vs) j = if i ≤ j ∧ j < i + vs.length then vs[j - i]? else Ram.find m j := by
  induction vs generalizing m i with
  | nil => simp [Ram.setFrom]
  | cons v vs ih =>
    rw [Ram.setFrom, ih]
    by_cases hij : j = i
    · subst hij; simp [Ram.find_set_same]
    · by_cases h : i + 1 ≤ j ∧ j < i + 1 + vs.length
      · have h' : i ≤ j ∧ j < i + (v :: vs).length := by simp; omega
        have hk : j - i = (j - (i + 1)) + 1 := by omega
        rw [if_pos h, if_pos h', hk, List.getElem?_cons_succ]
      · have h' : ¬ (i ≤ j ∧ j < i + (v :: vs).length) := by simp; omega
        rw [if_neg h, if_neg h', Ram.find_set_other _ _ hij]

theorem Ram.mem_set {w : Nat} {m : Cells w} {i : Nat} {v : BitVec w} {p : Nat × BitVec w} (h : p ∈ Ram.set m i v) :
    p = (i, v) ∨ p ∈ m := by
  induction m with
  | nil => simpa [Ram.set] using h
  | cons q m ih =>
    obtain ⟨a, x⟩ := q
    simp only [Ram.set] at h
    split at h
    · simpa using h
    · split at h
      · rcases List.mem_cons.1 h with h | h
        · exact .inl h
        · exact .inr (List.mem_cons_of_mem _ h)
      · rcases List.mem_cons.1 h with h | h
        · exact .inr (by simp [h])
        · rcases ih h with h | h
          · exact .inl h
          · exact .inr (List.mem_cons_of_mem _ h)

theorem Ram.set_sorted {w : Nat} (m : Cells w) (i : Nat) (v : BitVec w) (h : m.Pairwise (fun p q => p.1 < q.1)) :
    (Ram.set m i v).Pairwise (fun p q => p.1 < q.1) := by
  induction m with
  | nil => simp [Ram.set]
  | cons q m ih =>
    obtain ⟨a, x⟩ := q
    obtain ⟨hq, hm⟩ := List.pairwise_cons.1 h
    simp only [Ram.set]
    split
    · rename_i hia
      refine List.pairwise_cons.2 ⟨fun p hp => ?_, h⟩
      rcases List.mem_cons.1 hp with rfl | hp
      · exact hia
      · exact lt_trans hia (hq p hp)
    · split
      · rename_i hia; subst hia
        exact List.pairwise_cons.2 ⟨hq, hm⟩
      · refine List.pairwise_cons.2 ⟨fun p hp => ?_, ih hm⟩
        rcases Ram.mem_set hp with rfl | hp
        · simp only; omega
        · exact hq p hp

/-- A write inside the RAM keeps its form. -/
theorem Ram.set_wf {w size : Nat} {m : Cells w} {i : Nat} (v : BitVec w) (hm : Ram.wf size m) (hi : i < size) :
    Ram.wf size (Ram.set m i v) := by
  refine ⟨Ram.set_sorted m i v hm.1, fun p hp => ?_⟩
  rcases Ram.mem_set hp with rfl | hp
  · exact hi
  · exact hm.2 p hp

/-- A block written inside the RAM keeps its form. -/
theorem Ram.setFrom_wf {w size : Nat} {m : Cells w} {i : Nat} (vs : List (BitVec w)) (hm : Ram.wf size m)
    (hi : i + vs.length ≤ size) : Ram.wf size (Ram.setFrom m i vs) := by
  induction vs generalizing m i with
  | nil => exact hm
  | cons v vs ih =>
    simp only [List.length_cons] at hi
    exact ih (Ram.set_wf v hm (by omega)) (by omega)

theorem Ram.wf_nil {w : Nat} (size : Nat) : Ram.wf size ([] : Cells w) := ⟨.nil, by simp⟩

theorem Memory.wf_reset : Memory.wf State.reset := by decide

end Sys2Proof.Machine
end

