-- ==== Sys2Proof/Laws/Bus.lean ====
section
/-! SUPPORT. What an access of the bus can do (20_memory.md R72 to R83): the map at each register, the inversion of the access
check, and the outcomes of a read and a write. -/

namespace Sys2Proof.Machine

/-- Each register stands at its own offset, whatever the build. -/
theorem targetAt_reg (b : Config.Build) (r : Reg) : targetAt b (BitVec.ofNat 15 r.offset) = some (.reg r) := by
  cases r <;> rfl

/-- The access check at a register's offset (20_memory.md R74). -/
theorem busCheck_reg (s : State) (r : Reg) (k : AccessKind) :
    busCheck s (BitVec.ofNat 15 r.offset) k =
      if !k.fullWord then .error .bus
      else if !(Target.reg r).allows k then .error .bus
      else if s.busy && (Target.reg r).restricted k then .error .busyAccess
      else .ok (.reg r) := by
  have h : (BitVec.ofNat 15 r.offset).toNat % 4 = 0 := by cases r <;> rfl
  unfold busCheck
  rw [if_neg (not_not.2 h), targetAt_reg]

/-- What an access that passes every check has shown. -/
theorem busCheck_ok {s : State} {o : Offset} {k : AccessKind} {t : Target} (h : busCheck s o k = .ok t) :
    o.toNat % 4 = 0 ∧ k.fullWord = true ∧ targetAt s.build o = some t ∧ t.allows k = true ∧
      (s.busy && t.restricted k) = false := by
  unfold busCheck at h
  by_cases h1 : o.toNat % 4 = 0
  · rw [if_neg (not_not.2 h1)] at h
    cases hk : k.fullWord with
    | false => simp [hk] at h
    | true =>
      simp only [hk, Bool.not_true, Bool.false_eq_true, if_false] at h
      cases ht : targetAt s.build o with
      | none => simp [ht] at h
      | some u =>
        simp only [ht] at h
        cases ha : u.allows k with
        | false => simp [ha] at h
        | true =>
          simp only [ha, Bool.not_true, Bool.false_eq_true, if_false] at h
          cases hr : (s.busy && u.restricted k) with
          | true => simp [hr] at h
          | false =>
            simp only [hr, Bool.false_eq_true, if_false] at h
            cases h; exact ⟨h1, rfl, rfl, ha, hr⟩
  · rw [if_pos h1] at h; cases h

/-- A readable register that BUSY does not refuse answers its word (20_memory.md R74, R83). -/
theorem State.busRead_reg (s : State) (r : Reg) (hk : r.kind ≠ .wo)
    (hb : s.busy = false ∨ (Target.reg r).readRestricted = false) :
    s.busRead (BitVec.ofNat 15 r.offset) = s.respond (.read false (s.readReg r)) := by
  have h : (s.busy && (Target.reg r).readRestricted) = false := by
    rcases hb with hb | hb <;> simp [hb]
  unfold State.busRead
  rw [busCheck_reg]
  simp [AccessKind.fullWord, Target.allows, Target.readable, Target.restricted, hk, h, State.readTarget]

/-- A writable register that BUSY does not refuse does its write rule, answered OK. -/
theorem State.busWrite_reg (s : State) (r : Reg) (v : Word) (hk : r.kind ≠ .ro)
    (hb : s.busy = false ∨ (Target.reg r).writeRestricted = false) :
    s.busWrite (BitVec.ofNat 15 r.offset) v 0b1111 = (s.respond (.write false)).writeReg v r := by
  have h : (s.busy && (Target.reg r).writeRestricted) = false := by
    rcases hb with hb | hb <;> simp [hb]
  unfold State.busWrite
  rw [busCheck_reg]
  simp [AccessKind.fullWord, Target.allows, Target.writable, Target.restricted, hk, h, State.writeTarget]

/-- A read changes the response and, when it is refused, the error record. -/
theorem State.busRead_cases (s : State) (o : Offset) :
    (∃ c, busCheck s o .read = .error c ∧ s.busRead o = (s.recordErr c (offsetInfo o)).respond (.read true 0)) ∨
    (∃ t, busCheck s o .read = .ok t ∧ s.busRead o = s.respond (.read false (s.readTarget t))) := by
  unfold State.busRead
  cases h : busCheck s o .read with
  | error c => exact .inl ⟨c, rfl, rfl⟩
  | ok t => exact .inr ⟨t, rfl, rfl⟩

/-- A write is refused with the error record changed, or does what its target's rule says, answered OK. -/
theorem State.busWrite_cases (s : State) (o : Offset) (v : Word) (be : BitVec 4) :
    (∃ c, busCheck s o (.write be) = .error c ∧
      s.busWrite o v be = .next ((s.recordErr c (offsetInfo o)).respond (.write true))) ∨
    (∃ t, busCheck s o (.write be) = .ok t ∧ s.busWrite o v be = (s.respond (.write false)).writeTarget v t) := by
  unfold State.busWrite
  cases h : busCheck s o (.write be) with
  | error c => exact .inl ⟨c, rfl, rfl⟩
  | ok t => exact .inr ⟨t, rfl, rfl⟩

/-- Everything a command word can do: its error, or what its command does. -/
theorem State.command_cases {s t : State} {w : Word} (h : s.command w = .next t) :
    (∃ c, t = s.recordErr c w) ∨ ∃ i, decode w = .ok i ∧ exec i s = .next t := by
  unfold State.command at h
  cases hd : decode w with
  | error e => rw [hd] at h; cases h; exact .inl ⟨_, rfl⟩
  | ok i => rw [hd] at h; exact .inr ⟨i, rfl, h⟩

/-- A write of CFG_N is rejected or empties the buffers and drops the results (10_state.md R30). -/
theorem State.writeN_cases (s : State) (v : Word) :
    ((v.toNat < 1 ∨ v.toNat > s.build.nMax) ∧ s.writeN v = s.recordErr .cfg 0x024) ∨
    (1 ≤ v.toNat ∧ v.toNat ≤ s.build.nMax ∧
      s.writeN v =
        { s with
          cfg := { s.cfg with n := v }
          buf := { aCount := 0, bCount := 0 }
          status :=
            { s.status with resValid := false, peakValid := false, angleValid := false, frameRdy := false } }) := by
  unfold State.writeN
  by_cases h : v.toNat < 1 ∨ v.toNat > s.build.nMax
  · rw [if_pos h]; exact .inl ⟨h, rfl⟩
  · rw [if_neg h]; exact .inr ⟨by omega, by omega, rfl⟩

end Sys2Proof.Machine
end

