-- ==== Sys2Proof/Laws/Step.lean ====
section
/-! SUPPORT. What a step can do: whose turn it is, what that agent's turn leaves alone, what each stage's completion is
(00_scope.md R6; 44_control.md R216, R217). -/

namespace Sys2Proof.Machine

/-- A step is the turn of the agent that moves next. -/
theorem step_eq (s : State) : step s = s.atTurn.turn s.turnOf := rfl

/-- Taking the draw and using up the turn changes only the schedule, the draw counter and CYCLE. -/
theorem State.atTurn_eq (s : State) :
    s.atTurn =
      { s with
        env := { s.env with draws := s.env.draws + 1, schedule := s.env.schedule.tail }
        time := { s.time with cycle := Config.cycleDraw s.env.draws } } := by
  unfold State.atTurn State.nextAgent
  cases h : s.env.schedule with
  | nil => simp [State.tick, h]
  | cons g rest => simp [State.tick, h]

@[simp] theorem State.atTurn_build (s : State) : s.atTurn.build = s.build := by rw [State.atTurn_eq]
@[simp] theorem State.atTurn_cfg (s : State) : s.atTurn.cfg = s.cfg := by rw [State.atTurn_eq]
@[simp] theorem State.atTurn_status (s : State) : s.atTurn.status = s.status := by rw [State.atTurn_eq]
@[simp] theorem State.atTurn_error (s : State) : s.atTurn.error = s.error := by rw [State.atTurn_eq]
@[simp] theorem State.atTurn_buf (s : State) : s.atTurn.buf = s.buf := by rw [State.atTurn_eq]
@[simp] theorem State.atTurn_ingest (s : State) : s.atTurn.ingest = s.ingest := by rw [State.atTurn_eq]
@[simp] theorem State.atTurn_peak (s : State) : s.atTurn.peak = s.peak := by rw [State.atTurn_eq]
@[simp] theorem State.atTurn_angle (s : State) : s.atTurn.angle = s.angle := by rw [State.atTurn_eq]
@[simp] theorem State.atTurn_eng (s : State) : s.atTurn.eng = s.eng := by rw [State.atTurn_eq]
@[simp] theorem State.atTurn_ramA (s : State) : s.atTurn.ramA = s.ramA := by rw [State.atTurn_eq]
@[simp] theorem State.atTurn_ramB (s : State) : s.atTurn.ramB = s.ramB := by rw [State.atTurn_eq]
@[simp] theorem State.atTurn_res (s : State) : s.atTurn.res = s.res := by rw [State.atTurn_eq]
@[simp] theorem State.atTurn_lut (s : State) : s.atTurn.lut = s.lut := by rw [State.atTurn_eq]
@[simp] theorem State.atTurn_rstN (s : State) : s.atTurn.env.rstN = s.env.rstN := by rw [State.atTurn_eq]
@[simp] theorem State.atTurn_hostProgram (s : State) : s.atTurn.env.hostProgram = s.env.hostProgram := by
  rw [State.atTurn_eq]
@[simp] theorem State.atTurn_streamSource (s : State) : s.atTurn.env.streamSource = s.env.streamSource := by
  rw [State.atTurn_eq]
@[simp] theorem State.atTurn_resets (s : State) : s.atTurn.env.resets = s.env.resets := by rw [State.atTurn_eq]

/-- A state has its own operands. -/
theorem State.SameOperands.refl (s : State) : s.SameOperands s :=
  ⟨rfl, rfl, rfl, rfl, rfl, rfl, rfl, rfl, rfl, rfl, rfl, List.prefix_rfl, fun _ => rfl, fun _ => rfl, fun _ => rfl,
    fun _ => rfl⟩

/-- What two moves in a row leave, both leave. -/
theorem State.SameOperands.trans {s t u : State} (h : s.SameOperands t) (g : t.SameOperands u) : s.SameOperands u := by
  obtain ⟨h1, h2, h3, h4, h5, h6, h7, h8, h9, h10, h11, h12, hA, hB, hR, hL⟩ := h
  obtain ⟨g1, g2, g3, g4, g5, g6, g7, g8, g9, g10, g11, g12, gA, gB, gR, gL⟩ := g
  exact ⟨g1.trans h1, g2.trans h2, g3.trans h3, g4.trans h4, g5.trans h5, g6.trans h6, g7.trans h7, g8.trans h8,
    g9.trans h9, g10.trans h10, g11.trans h11, h12.trans g12, fun j => (gA j).trans (hA j), fun j => (gB j).trans (hB j),
    fun i => (gR i).trans (hR i), fun i => (gL i).trans (hL i)⟩

/-- Taking the draw and using up the turn touches no operand. -/
theorem State.atTurn_sameOperands (s : State) : s.SameOperands s.atTurn := by
  rw [State.atTurn_eq]
  exact .refl _

/-- Everything the host's turn can do. -/
theorem State.hostStep_cases {s t : State} (h : s.hostStep = .next t) :
    (s.env.hostProgram = [] ∧ t = s) ∨
    ∃ a rest, s.env.hostProgram = a :: rest ∧
      ((∃ level, (a = .assertReset ∧ level = false ∨ a = .releaseReset ∧ level = true) ∧ t = (s.programLeft rest).driveReset level) ∨
        (s.env.rstN = true ∧
          ((∃ o, a = .read o ∧ t = (s.programLeft rest).busRead o) ∨
            (∃ o v be, a = .write o v be ∧ (s.programLeft rest).busWrite o v be = .next t) ∨
            (∃ k level, a = .poll k level ∧ t = s.pollStep k level rest)))) := by
  unfold State.hostStep at h
  cases hp : s.env.hostProgram with
  | nil => rw [hp] at h; cases h; exact .inl ⟨rfl, rfl⟩
  | cons a rest =>
    rw [hp] at h
    refine .inr ⟨a, rest, rfl, ?_⟩
    cases a with
    | assertReset => cases h; exact .inl ⟨false, .inl ⟨rfl, rfl⟩, rfl⟩
    | releaseReset => cases h; exact .inl ⟨true, .inr ⟨rfl, rfl⟩, rfl⟩
    | read o =>
      simp only [State.hostAct] at h
      split at h
      · rename_i hr; cases h; exact .inr ⟨hr, .inl ⟨o, rfl, rfl⟩⟩
      · cases h
    | write o v be =>
      simp only [State.hostAct] at h
      split at h
      · rename_i hr; exact .inr ⟨hr, .inr (.inl ⟨o, v, be, rfl, h⟩)⟩
      · cases h
    | poll k level =>
      simp only [State.hostAct] at h
      split at h
      · rename_i hr; cases h; exact .inr ⟨hr, .inr (.inr ⟨k, level, rfl, rfl⟩)⟩
      · cases h

/-- Everything the stream source's turn can do (43_frame_ingest.md R190). -/
theorem State.streamStep_cases (s : State) :
    s.streamStep = s ∨
    ∃ b rest, s.env.streamSource = b :: rest ∧ s.ingest.fifo.length < s.build.fifoDepth ∧
      s.streamStep = { s with env := { s.env with streamSource := rest } }.appendByte b := by
  unfold State.streamStep
  cases hs : s.env.streamSource with
  | nil => exact .inl rfl
  | cons b rest =>
    cases hr : s.fifoReady with
    | false => exact .inl (by simp)
    | true => exact .inr ⟨b, rest, rfl, by simpa [State.fifoReady] using hr, by simp⟩

/-- Everything the deframer's turn can do (43_frame_ingest.md R194 to R197). -/
theorem State.deframerStep_cases (s : State) :
    s.deframerStep = s ∨
    (s.busy = false ∧ s.status.done = false ∧ s.status.frameRdy = false ∧ 2 + 2 * s.n ≤ s.ingest.fifo.length ∧
      (s.deframerStep = s.startLoad ∨ s.deframerStep = s.discardByte)) := by
  unfold State.deframerStep
  cases hg : s.deframerEnabled with
  | false => exact .inl (by simp)
  | true =>
    have := hg
    simp only [State.deframerEnabled, Bool.and_eq_true, Bool.not_eq_true', decide_eq_true_eq] at this
    obtain ⟨⟨⟨⟨_, hb⟩, hd⟩, hf⟩, hl⟩ := this
    refine .inr ⟨hb, hd, hf, hl, ?_⟩
    cases s.headerAtHead
    · exact .inr (by simp)
    · exact .inl (by simp)

theorem State.engineStep_idle {s : State} (h : s.status.stage = .idle) : s.engineStep = s := by simp [State.engineStep, h]
theorem State.engineStep_load {s : State} (h : s.status.stage = .load) : s.engineStep = s.completeLoad := by
  simp [State.engineStep, h]
theorem State.engineStep_corr {s : State} (h : s.status.stage = .corr) : s.engineStep = s.completeCorr := by
  simp [State.engineStep, h]
theorem State.engineStep_peak {s : State} (h : s.status.stage = .peak) : s.engineStep = s.completePeak := by
  simp [State.engineStep, h]
theorem State.engineStep_angle {s : State} (h : s.status.stage = .angle) : s.engineStep = s.completeAngle := by
  simp [State.engineStep, h]

/-- What follows CORR is the PEAK stage in a RUN and the end otherwise (44_control.md R217). -/
theorem State.completeCorr_cases (s : State) :
    (s.eng.chain = .run ∧ s.completeCorr = s.corrWrites.setStage .peak) ∨
    (s.eng.chain = .single ∧ s.completeCorr = s.corrWrites.finish) := by
  unfold State.completeCorr State.afterCorr
  cases h : s.eng.chain
  · exact .inr ⟨rfl, by simp [h]⟩
  · exact .inl ⟨rfl, by simp [h]⟩

/-- What follows PEAK is the ANGLE stage in a RUN and the end otherwise (44_control.md R217). -/
theorem State.completePeak_cases (s : State) :
    (s.eng.chain = .run ∧ s.completePeak = s.peakWrites.setStage .angle) ∨
    (s.eng.chain = .single ∧ s.completePeak = s.peakWrites.finish) := by
  unfold State.completePeak State.afterPeak
  cases h : s.eng.chain
  · exact .inr ⟨rfl, by simp [h]⟩
  · exact .inl ⟨rfl, by simp [h]⟩

/-- What follows LOAD: idle, an AUTO_RUN start, or its rejection (43_frame_ingest.md R198, R199). -/
theorem State.completeLoad_cases (s : State) :
    s.completeLoad = s.loadWrites.setStage .idle ∨
    (s.geometryValid = true ∧ s.completeLoad = s.loadWrites.startRun) ∨
    s.completeLoad = (s.loadWrites.recordErr .cfg autoRunInfo).setStage .idle := by
  unfold State.completeLoad State.afterLoad State.autoRunStart
  split
  · split
    · rename_i h; exact .inr (.inl ⟨by simpa using h, rfl⟩)
    · exact .inr (.inr rfl)
  · exact .inl rfl

/-- Cells a LOAD writes hold the bytes of the frame (43_frame_ingest.md R198). -/
theorem State.loadWrites_readA (s : State) (j : Nat) :
    s.loadWrites.readA j = if j < s.n ∧ j < s.ingest.fifo.length then s.ingest.fifo[j]! else s.readA j := by
  unfold State.readA
  simp only [State.loadWrites_ramA, Ram.find_setFrom, List.length_take, Nat.zero_le, true_and, Nat.zero_add, Nat.sub_zero]
  by_cases h : j < s.n ∧ j < s.ingest.fifo.length
  · simp [h.1, h.2]
  · have h' : ¬ j < min s.n s.ingest.fifo.length := by omega
    rw [if_neg h, if_neg h']
    rfl

/-- Cells a CORR stage writes hold the correlation (40_correlation.md R123); the others keep their values (R130). -/
theorem State.corrWrites_readRes (s : State) (i : Nat) :
    s.corrWrites.readRes i =
      if i < s.resultLen then BitVec.ofInt 32 (correlate s.eng.mode s.sampleA s.sampleB s.n i) else s.readRes i := by
  unfold State.readRes
  simp only [State.corrWrites_res, Ram.find_setFrom, State.correlation, List.length_map, List.length_range, Nat.zero_le,
    true_and, Nat.zero_add, Nat.sub_zero]
  by_cases h : i < s.resultLen
  · simp [h]
  · rw [if_neg h, if_neg h]
    rfl

end Sys2Proof.Machine
end

