-- ==== Sys2Proof/Laws/Moves.lean ====
section
/-! SUPPORT. Everything a step can do, said once: what a write's target does (`Written`), what the agent that moves does
(`Moves`), and that every step is such a move from the state at its turn. -/

namespace Sys2Proof.Machine

/-- What an accepted write of `v` to a target does; the restricted ones only while idle (20_memory.md R83). -/
inductive Written (s : State) (v : Word) : Target → State → Prop
  | illegal (c : Cause) : Written s v (.reg .cmd) (s.recordErr c v)
  | command (i : Instr) (t : State) (hd : decode v = .ok i) (h : exec i s = .next t) : Written s v (.reg .cmd) t
  | err : Written s v (.reg .err) (s.clearErr v)
  | irqEn : Written s v (.reg .irqEn) { s with cfg := { s.cfg with irqEn := v.truncate 3 } }
  | streamIn : Written s v (.reg .streamIn) (s.streamIn v)
  | ctrl (h : s.busy = false) : Written s v (.reg .ctrl) { s with cfg := { s.cfg with ctrl := v.truncate 5 } }
  | cfgN (h : s.busy = false) : Written s v (.reg .cfgN) (s.writeN v)
  | cfgFs (h : s.busy = false) : Written s v (.reg .cfgFs) { s with cfg := { s.cfg with fs := v } }
  | cfgC (h : s.busy = false) : Written s v (.reg .cfgC) { s with cfg := { s.cfg with c := v } }
  | cfgD (h : s.busy = false) : Written s v (.reg .cfgD) { s with cfg := { s.cfg with d := v } }
  | aPush (h : s.busy = false) : Written s v (.reg .aPush) (s.pushA v)
  | bPush (h : s.busy = false) : Written s v (.reg .bPush) (s.pushB v)
  | lut (i : Nat) (h : s.busy = false) : Written s v (.lut i) { s with lut := Ram.set s.lut i v }

/-- An accepted write does one of these. -/
theorem State.writeTarget_written {s t : State} {v : Word} {be : BitVec 4} {g : Target}
    (ha : g.allows (.write be) = true) (hr : (s.busy && g.restricted (.write be)) = false)
    (h : s.writeTarget v g = .next t) : Written s v g t := by
  cases g with
  | sampleA i => cases ha
  | sampleB i => cases ha
  | result i => cases ha
  | lut i =>
    cases h
    exact .lut i (by simpa [Target.restricted, Target.writeRestricted] using hr)
  | reg r =>
    have idle : (Target.reg r).writeRestricted = true → s.busy = false := fun hw => by
      simpa [Target.restricted, hw] using hr
    cases r with
    | cmd =>
      rcases State.command_cases (show s.command v = .next t from h) with ⟨c, rfl⟩ | ⟨i, hd, hx⟩
      · exact .illegal c
      · exact .command i t hd hx
    | err => cases h; exact .err
    | irqEn => cases h; exact .irqEn
    | streamIn => cases h; exact .streamIn
    | ctrl => cases h; exact .ctrl (idle rfl)
    | cfgN => cases h; exact .cfgN (idle rfl)
    | cfgFs => cases h; exact .cfgFs (idle rfl)
    | cfgC => cases h; exact .cfgC (idle rfl)
    | cfgD => cases h; exact .cfgD (idle rfl)
    | aPush => cases h; exact .aPush (idle rfl)
    | bPush => cases h; exact .bPush (idle rfl)
    | _ => cases ha

/-- What the agent that moves does to the state at its turn. -/
inductive Moves (u : State) : Agent → State → Prop
  /-- The agent has no step. -/
  | pass (g : Agent) : Moves u g u
  /-- The pin is driven to the level it has. -/
  | pinKept (rest : List HostAction) : Moves u .host (u.programLeft rest)
  | hardReset (a : HostAction) (rest : List HostAction) (level : Bool) (hp : u.env.hostProgram = a :: rest)
      (ha : a = .assertReset ∧ level = false ∨ a = .releaseReset ∧ level = true) (hl : u.env.rstN ≠ level) :
      Moves u .host ((u.programLeft rest).hardReset level)
  /-- An access is refused (20_memory.md R78). -/
  | refused (rest : List HostAction) (c : Cause) (info : Word) (r : Response) (hn : u.env.rstN = true) :
      Moves u .host (((u.programLeft rest).recordErr c info).respond r)
  /-- A read, or a round of a polling loop. -/
  | answered (rest : List HostAction) (r : Response) (hn : u.env.rstN = true) : Moves u .host ((u.programLeft rest).respond r)
  | written (o : Offset) (v : Word) (rest : List HostAction) (g : Target) (t : State) (hn : u.env.rstN = true)
      (hp : u.env.hostProgram = .write o v 0b1111 :: rest) (hg : targetAt u.build o = some g) (ho : o.toNat % 4 = 0)
      (h : Written ((u.programLeft rest).respond (.write false)) v g t) : Moves u .host t
  | stream (b : Byte) (rest : List Byte) (hn : u.env.rstN = true) (hs : u.env.streamSource = b :: rest)
      (hl : u.ingest.fifo.length < u.build.fifoDepth) :
      Moves u .stream ({ u with env := { u.env with streamSource := rest } }.appendByte b)
  | engine (hn : u.env.rstN = true) (hb : u.busy = true) : Moves u .engine u.engineStep
  | loadStart (hn : u.env.rstN = true) (hb : u.busy = false) (hd : u.status.done = false) (hf : u.status.frameRdy = false)
      (hl : 2 + 2 * u.n ≤ u.ingest.fifo.length) : Moves u .deframer u.startLoad
  | discard (hn : u.env.rstN = true) (hb : u.busy = false) (hd : u.status.done = false) (hf : u.status.frameRdy = false)
      (hl : 2 + 2 * u.n ≤ u.ingest.fifo.length) : Moves u .deframer u.discardByte

/-- The host's turn is a move. -/
theorem State.hostStep_moves {u t : State} (h : u.hostStep = .next t) : Moves u .host t := by
  rcases State.hostStep_cases h with ⟨_, rfl⟩ | ⟨a, rest, hp, ⟨level, ha, rfl⟩ | ⟨hn, ⟨o, rfl, rfl⟩ | ⟨o, v, be, rfl, hw⟩ |
    ⟨k, level, rfl, rfl⟩⟩⟩
  · exact .pass _
  · unfold State.driveReset
    split
    · exact .pinKept rest
    · rename_i hl; exact .hardReset a rest level hp ha hl
  · rcases State.busRead_cases (u.programLeft rest) o with ⟨c, _, hx⟩ | ⟨g, _, hx⟩
    · rw [hx]; exact .refused rest c _ _ hn
    · rw [hx]; exact .answered rest _ hn
  · rcases State.busWrite_cases (u.programLeft rest) o v be with ⟨c, _, hx⟩ | ⟨g, hc, hx⟩
    · rw [hx] at hw; cases hw; exact .refused rest c _ _ hn
    · rw [hx] at hw
      obtain ⟨ho, hf, hg, ha, hr⟩ := busCheck_ok hc
      have hbe : be = 0b1111 := by simpa [AccessKind.fullWord] using hf
      subst hbe
      exact .written o v rest g t hn hp hg ho (State.writeTarget_written ha hr hw)
  · have hx : u.busRead 0x00C = u.respond (.read false u.statusWord) := by
      unfold State.busRead
      rw [show (0x00C : Offset) = BitVec.ofNat 15 Reg.status.offset from rfl, busCheck_reg]
      simp [AccessKind.fullWord, Target.allows, Target.readable, Reg.kind, Target.restricted, Target.readRestricted,
        State.readTarget, State.readReg]
    unfold State.pollStep
    rw [hx]
    dsimp only
    split
    · exact .answered rest _ hn
    · exact .answered u.env.hostProgram _ hn

/-- Every step is a move of some agent from the state at its turn. -/
theorem step_moves {s t : State} (h : step s = .next t) : Moves s.atTurn s.turnOf t := by
  rw [step_eq] at h
  cases hg : s.turnOf with
  | host => rw [hg] at h; exact State.hostStep_moves h
  | stream =>
    rw [hg] at h
    simp only [State.turn] at h
    cases h
    split
    · rename_i hn
      rcases State.streamStep_cases s.atTurn with hx | ⟨b, rest, hs, hl, hx⟩
      · rw [hx]; exact .pass _
      · rw [hx]; exact .stream b rest hn hs hl
    · exact .pass _
  | engine =>
    rw [hg] at h
    simp only [State.turn] at h
    cases h
    split
    · rename_i hn
      by_cases hb : s.atTurn.busy = true
      · exact .engine hn hb
      · rw [State.engineStep_idle (State.busy_eq_false.1 (by simpa using hb))]; exact .pass _
    · exact .pass _
  | deframer =>
    rw [hg] at h
    simp only [State.turn] at h
    cases h
    split
    · rename_i hn
      rcases State.deframerStep_cases s.atTurn with hx | ⟨hb, hd, hf, hl, hx | hx⟩
      · rw [hx]; exact .pass _
      · rw [hx]; exact .loadStart hn hb hd hf hl
      · rw [hx]; exact .discard hn hb hd hf hl
    · exact .pass _

end Sys2Proof.Machine
end

