-- ==== Sys2Proof/Laws/PerInstr.lean ====
section
/-! SUPPORT. Per instruction: its word keeps the reserved field of 30_encoding.md R100 at 0. -/

namespace Sys2Proof.Laws.ReservedBits

/-- The word of the instruction has RSV = 0, and IMM16 = 0 unless the instruction takes an index (30_encoding.md R100). -/
def Statement (i : Instr) : Prop :=
  rsvField (encode i) = 0 ∧ immField (encode i) = match i with
    | .angleI imm => BitVec.ofNat 16 imm
    | _ => 0

theorem rsvField_commandWord (op : BitVec 4) (f : BitVec 1) (imm : BitVec 16) : rsvField (commandWord op f imm) = 0 := by
  apply BitVec.eq_of_getLsbD_eq
  intro k hk
  simp only [rsvField, commandWord, BitVec.getLsbD_extractLsb', BitVec.getLsbD_append]
  have h1 : ¬ 5 + k < 4 := by omega
  have h2 : ¬ 5 + k - 4 < 1 := by omega
  have h3 : 5 + k - 4 - 1 < 11 := by omega
  simp [h1, h2, h3]

theorem immField_commandWord (op : BitVec 4) (f : BitVec 1) (imm : BitVec 16) : immField (commandWord op f imm) = imm := by
  apply BitVec.eq_of_getLsbD_eq
  intro k hk
  simp only [immField, commandWord, BitVec.getLsbD_extractLsb', BitVec.getLsbD_append]
  have h1 : ¬ 16 + k < 4 := by omega
  have h2 : ¬ 16 + k - 4 < 1 := by omega
  have h3 : ¬ 16 + k - 4 - 1 < 11 := by omega
  have h4 : 16 + k - 4 - 1 - 11 = k := by omega
  simp [h1, h2, h3, h4, hk]

theorem nop : Statement .nop := ⟨rsvField_commandWord _ _ _, immField_commandWord _ _ _⟩
theorem corrX : Statement .corrX := ⟨rsvField_commandWord _ _ _, immField_commandWord _ _ _⟩
theorem corrC : Statement .corrC := ⟨rsvField_commandWord _ _ _, immField_commandWord _ _ _⟩
theorem peak : Statement .peak := ⟨rsvField_commandWord _ _ _, immField_commandWord _ _ _⟩
theorem angle : Statement .angle := ⟨rsvField_commandWord _ _ _, immField_commandWord _ _ _⟩
theorem angleI (imm : Nat) : Statement (.angleI imm) := ⟨rsvField_commandWord _ _ _, immField_commandWord _ _ _⟩
theorem run : Statement .run := ⟨rsvField_commandWord _ _ _, immField_commandWord _ _ _⟩
theorem clrbuf : Statement .clrbuf := ⟨rsvField_commandWord _ _ _, immField_commandWord _ _ _⟩
theorem ack : Statement .ack := ⟨rsvField_commandWord _ _ _, immField_commandWord _ _ _⟩
theorem flush : Statement .flush := ⟨rsvField_commandWord _ _ _, immField_commandWord _ _ _⟩
theorem sreset : Statement .sreset := ⟨rsvField_commandWord _ _ _, immField_commandWord _ _ _⟩

end Sys2Proof.Laws.ReservedBits
end

