-- ==== Sys2Proof/Tests/Slice0.lean ====
section
/-! SUPPORT. The model's own tests: WellFormed refuses each ill-formed term, words written out bit by bit decode, one-step tests
whose expected values are those of 95_test_vectors.md, and for each obligation a witness of its hypotheses. -/

namespace Sys2Proof.Tests

open Sys2Proof Sys2Proof.Machine

/-! Small states. -/

/-- Cells 0, 1, … holding these integers. -/
def cells (w : Nat) (vs : List Int) : Cells w := (List.range vs.length).zip (vs.map (BitVec.ofInt w))

/-- Idle, N samples in each buffer (95_test_vectors.md 3.1). -/
def full (a b : List Int) : State :=
  { State.reset with
    cfg := { State.reset.cfg with n := BitVec.ofNat 32 a.length }
    buf := { aCount := BitVec.ofNat 11 a.length, bCount := BitVec.ofNat 11 b.length }
    ramA := cells 8 a
    ramB := cells 8 b }

/-- Idle, a valid result of odd length (95_test_vectors.md 3.2). -/
def withResult (rs : List Int) : State :=
  let zeros := List.replicate ((rs.length + 1) / 2) 0
  let s := full zeros zeros
  { s with res := cells 32 rs, status := { s.status with resValid := true } }

/-- V-C1's operands, N = 4. -/
def v1 : State := full [1, 0, 0, 0] [0, 1, 0, 0]

/-- V-C1 in its CORR stage, cross-correlation, no RUN. -/
def v1Corr : State := v1.startCorr .cross
/-- V-C1 in its CORR stage as part of a RUN. -/
def v1Run : State := v1.startRun
/-- V-P8 in its PEAK stage. -/
def p8Peak : State := (withResult [16384, -32512, 16129]).startPeak
/-- V-P8 with its peak found: PEAK_MAX_IDX = 0, PEAK_ABS_IDX = 1. -/
def p8Found : State := p8Peak.completePeak
/-- `angle #124` of V-A1 in its ANGLE stage. -/
def a1Angle : State := State.reset.startAngle .imm 124
/-- A frame of N = 1 whose header has been taken, with one byte of the next one behind it (V-F4). -/
def f4Load : State :=
  { full [0] [0] with
    ingest := { fifo := [0xFF, 0x02, 0x03], frameCount := 0, resyncCount := 0 }
    status := { Status.reset with stage := .load } }
/-- The same with CTRL.AUTO_RUN. -/
def f4Auto : State := { f4Load with cfg := { f4Load.cfg with ctrl := 0x18 } }
/-- N = 1, the deframer enabled, these bytes in the FIFO. -/
def framed (bytes : List Byte) : State :=
  { full [0] [0] with
    cfg := { (full [0] [0]).cfg with ctrl := 0x08 }
    ingest := { fifo := bytes, frameCount := 0, resyncCount := 0 } }
/-- CFG_D = 0x80000000 (−0.0), an invalid geometry (V-A8). -/
def badGeometry (s : State) : State := { s with cfg := { s.cfg with d := 0x80000000 } }
/-- The host moves next, with this action. -/
def hostNext (a : HostAction) (s : State) : State :=
  { s with env := { s.env with schedule := [.host], hostProgram := [a] } }

/-! WellFormed refuses each ill-formed term. -/

theorem test_wf_index : Instr.wellFormed (.angleI 65535) = true ∧ Instr.wellFormed (.angleI 65536) = false := by decide
theorem test_wf_default : Config.Build.default.wellFormed = true := by decide
theorem test_wf_nMax :
    Config.Build.wellFormed { Config.Build.default with nMax := 0 } = false ∧
      Config.Build.wellFormed { Config.Build.default with nMax := 1025 } = false := by decide
theorem test_wf_nReset :
    Config.Build.wellFormed { Config.Build.default with nReset := 0 } = false ∧
      Config.Build.wellFormed { Config.Build.default with nReset := 1025 } = false := by decide
theorem test_wf_fifoDepth :
    Config.Build.wellFormed { Config.Build.default with fifoDepth := 2049 } = false ∧
      Config.Build.wellFormed { Config.Build.default with fifoDepth := 65536 } = false := by decide
theorem test_wf_macLanes : Config.Build.wellFormed { Config.Build.default with macLanes := 0 } = false := by decide
theorem test_wf_base :
    Config.Build.wellFormed { Config.Build.default with base := 0x4000 } = false ∧
      Config.Build.wellFormed { Config.Build.default with base := 0x18000 } = true := by decide

/-! Words written out from 30_encoding.md R100 and R102: IMM16, RSV, F, OP. -/

theorem test_decode_nop : decodeTableWord 32 0b0000000000000000_00000000000_0_0000 = some .nop := by decide
theorem test_decode_corrX : decodeTableWord 32 0b0000000000000000_00000000000_0_0001 = some .corrX := by decide
theorem test_decode_corrC : decodeTableWord 32 0b0000000000000000_00000000000_1_0001 = some .corrC := by decide
theorem test_decode_peak : decodeTableWord 32 0b0000000000000000_00000000000_0_0010 = some .peak := by decide
theorem test_decode_angle : decodeTableWord 32 0b0000000000000000_00000000000_0_0011 = some .angle := by decide
theorem test_decode_angleI :
    decodeTableWord 32 0b0000000001111100_00000000000_1_0011 = some (.angleI 124) ∧
      decodeTableWord 32 0b1000000000000001_00000000000_1_0011 = some (.angleI 32769) := by decide
theorem test_decode_run : decodeTableWord 32 0b0000000000000000_00000000000_0_0100 = some .run := by decide
theorem test_decode_clrbuf : decodeTableWord 32 0b0000000000000000_00000000000_0_0101 = some .clrbuf := by decide
theorem test_decode_ack : decodeTableWord 32 0b0000000000000000_00000000000_0_0110 = some .ack := by decide
theorem test_decode_flush : decodeTableWord 32 0b0000000000000000_00000000000_0_0111 = some .flush := by decide
theorem test_decode_sreset : decodeTableWord 32 0b0000000000000000_00000000000_0_1000 = some .sreset := by decide
/-- 95_test_vectors.md 3.4, the ILLEGAL rows. -/
theorem test_decode_illegal :
    [0x9, 0xA, 0xF, 0x10, 0x12, 0x21, 0x8003, 0x10001, 0x10003, 0x10004, 0x80000008, 0x19].all
      (fun w => decodeTableWord 32 w == none) = true := by decide
/-- 20_memory.md R71: the least significant byte lies lowest. -/
theorem test_decode_bytes : (decodeBytes [0x13, 0x00, 0x7C, 0x00]).toOption = some (.angleI 124) := by decide
theorem test_decode_short : (decodeBytes [0x13, 0x00, 0x7C]).toOption = none := by decide
/-- 30_encoding.md R106: `angle #124` and `corr.c`. -/
theorem test_assemble :
    assembleLine ['a', 'n', 'g', 'l', 'e', ' ', '#', '1', '2', '4'] = some (.angleI 124) ∧
      assembleLine ['c', 'o', 'r', 'r', '.', 'c', ' ', ';', ' ', 'x'] = some .corrC := by decide

/-! One step each; the expected values are those of 95_test_vectors.md. -/

/-- V-C1. -/
theorem test_corrX_v1 : (List.range 7).map v1Corr.engineStep.resInt = [0, 0, 0, 0, 1, 0, 0] := by decide
/-- V-C6. -/
theorem test_corrX_v6 :
    (List.range 3).map ((full [127, -128] [-128, 127]).startCorr .cross).engineStep.resInt = [16384, -32512, 16129] := by
  decide
/-- V-C2. -/
theorem test_corrC_v2 :
    (List.range 5).map ((full [1, 2, 3] [4, 5, 6]).startCorr .conv).engineStep.resInt = [4, 13, 28, 27, 18] := by decide
/-- V-C11, last row: STATUS after issue and after completion. -/
theorem test_corrC_status :
    (v1.startCorr .conv).statusWord = 0x5 ∧ (v1.startCorr .conv).engineStep.statusWord = 0x1030 := by decide
/-- 41_peak.md R142, R143 by hand, on V-P3's first four cells: the signed maximum ties at 1 and 2 (notes/assumptions/24.md says
why cell 4 is not V-P3's). -/
theorem test_peak_tie :
    let t := (withResult [-5, -3, -3, -7, -4]).startPeak.engineStep
    t.peak.maxVal.toInt = -3 ∧ t.peak.maxIdx = 1 ∧ t.peak.absVal = 7 ∧ t.peak.absIdx = 3 := by decide
/-- V-P8. -/
theorem test_peak_v8 :
    p8Found.peak.maxVal = 16384 ∧ p8Found.peak.maxIdx = 0 ∧ p8Found.peak.absVal = 32512 ∧ p8Found.peak.absIdx = 1 := by
  decide
/-- V-A12, PEAK_SEL = 0: index 1, zero lag. -/
theorem test_angle_sel0 :
    let t := (p8Found.startAngle .peak 0).engineStep
    t.angle.idx = 1 ∧ t.angle.lag = 0 ∧ t.angle.argRaw = 0 ∧ t.statusWord = 0xF0 := by decide
/-- V-A12, PEAK_SEL = 1: index 0, lag −1. -/
theorem test_angle_sel1 :
    let t := ({ p8Found with cfg := { p8Found.cfg with ctrl := 0x2 } }.startAngle .peak 0).engineStep
    t.angle.idx = 0 ∧ t.angle.lag = 0xFFFFFFFF ∧ t.angle.tdelay = 0xB68637BD ∧ t.angle.argRaw = 0xBCE0C9D9 := by decide
/-- V-A10: lag +37 saturates; the bearing is −90 by ASIN_DEG's P1. -/
theorem test_angleI_v10 :
    let t := (State.reset.startAngle .imm 286).engineStep
    t.angle.lag = 37 ∧ t.angle.tdelay = 0x391B3073 ∧ t.angle.argRaw = 0x3F81F4B2 ∧ t.angle.argClamp = 0x3F800000 ∧
      t.statusWord = 0x190 := by decide
/-- V-A7: in LUT mode the pattern of the table comes out unchanged, a NaN too. -/
theorem test_angleI_lut :
    let s := { State.reset with cfg := { State.reset.cfg with ctrl := 0x4 }, lut := [(248, 0x7FC00000)] }
    let t := (s.startAngle .imm 248).engineStep
    t.angle.angle = 0x7FC00000 ∧ t.errAny = false := by decide
/-- P1: STATUS and LAG after the run. -/
theorem test_run_p1 :
    let t := v1Run.engineStep.engineStep.engineStep
    t.statusWord = 0xF0 ∧ t.angle.idx = 4 ∧ t.angle.lag = 1 ∧ t.angle.argClamp = 0x3CE0C9D9 := by decide
/-- V-X2, last line: LENGTH for RUN. -/
theorem test_run_length :
    exec .run State.reset = .next { State.reset with error := { err := 0x4, cause := 3, info := 0x00000004 } } := rfl
/-- V-X6. -/
theorem test_clrbuf_v6 :
    let s := { v1 with status := { v1.status with done := true, resValid := true, peakValid := true, resMode := .conv } }
    s.statusWord = 0x1070 ∧ s.clearBuffers.statusWord = 0x1010 ∧ s.clearBuffers.buf.aCount = 0 ∧
      s.clearBuffers.readA 0 = 1 := by decide
/-- 44_control.md R214 and 10_state.md R25: DONE and FRAME_RDY fall, and nothing else does. -/
theorem test_ack :
    let s := { p8Found with status := { p8Found.status with frameRdy := true } }
    s.statusWord = 0x270 ∧ s.acknowledge.statusWord = 0x060 := by decide
/-- V-X6: the FIFO is emptied, RESYNC_COUNT is not. -/
theorem test_flush_v6 :
    let s := { State.reset with ingest := { fifo := [1, 2, 3], frameCount := 0, resyncCount := 9 } }
    s.streamLevel = 3 ∧ s.flushFifo.streamLevel = 0 ∧ s.flushFifo.ingest.resyncCount = 9 := by decide
/-- V-X4. -/
theorem test_sreset_v4 :
    let s := { p8Found with
      cfg := { p8Found.cfg with ctrl := 0x1F, irqEn := 0x7 }
      error := { err := 0x4, cause := 3, info := 4 } }
    s.softReset.statusWord = 0 ∧ s.softReset.readReg .ctrl = 0x1F ∧ s.softReset.readReg .irqEn = 0x7 ∧
      s.softReset.cfg.n = 2 ∧ s.softReset.readRes 1 = s.readRes 1 ∧ s.softReset.irq = false := by decide
/-- V-F4: the header is the first two bytes; one byte is left. -/
theorem test_load_v4 :
    let s := framed [0xFF, 0xFF, 0xFF, 0x02, 0x03]
    let t := s.deframerStep.engineStep
    t.readA 0 = 0xFF ∧ t.readB 0 = 0x02 ∧ t.streamLevel = 1 ∧ t.statusWord = 0x200 ∧ t.ingest.frameCount = 1 := by decide
/-- V-X3: PARAMS, a misaligned read, an unmapped register, STATUS is read-only, partial before read-only. -/
theorem test_bus_v3 :
    (State.reset.busRead 0x004).env.resp = .read false 0x10000400 ∧
      (State.reset.busRead 0x026).env.resp = .read true 0 ∧ (State.reset.busRead 0x026).error.info = 0x26 ∧
      busCheck State.reset 0x088 .read = .error .bus ∧ busCheck State.reset 0x5FFC .read = .error .bus ∧
      busCheck State.reset 0x00C (.write 0b1111) = .error .bus ∧ busCheck v1Corr 0x4002 .read = .error .bus ∧
      busCheck v1Corr 0x4000 .read = .error .busyAccess := by decide

/-! The words of the opcode table run as the first step after reset. -/

theorem test_first_step_nop :
    step (State.reset.withFetchWord 32 0) =
      .next { State.reset with
        env := { Env.quiet with draws := 1, resp := .write false }
        time := { State.reset.time with cycle := Config.cycleDraw 0 } } := rfl
theorem test_first_step_angleI : ∃ t, step (State.reset.withFetchWord 32 0x13) = .next t ∧ t.status.stage = .angle :=
  ⟨_, rfl, rfl⟩

/-! A witness for the hypotheses of each obligation that has some. -/

/-- `decide` on the parts of the invariant. -/
theorem inv_v1 : v1.Inv := by
  unfold State.Inv State.LegalN State.CountsBounded State.Sequenced State.FifoBounded State.RunUsesPeak State.GeometryHeld
    State.IndexesLegal
  decide
theorem inv_v1Corr : v1Corr.Inv := by
  unfold State.Inv State.LegalN State.CountsBounded State.Sequenced State.FifoBounded State.RunUsesPeak State.GeometryHeld
    State.IndexesLegal
  decide
theorem inv_p8Peak : p8Peak.Inv := by
  unfold State.Inv State.LegalN State.CountsBounded State.Sequenced State.FifoBounded State.RunUsesPeak State.GeometryHeld
    State.IndexesLegal
  decide
theorem inv_p8Found : p8Found.Inv := by
  unfold State.Inv State.LegalN State.CountsBounded State.Sequenced State.FifoBounded State.RunUsesPeak State.GeometryHeld
    State.IndexesLegal
  decide
theorem inv_a1Angle : a1Angle.Inv := by
  unfold State.Inv State.LegalN State.CountsBounded State.Sequenced State.FifoBounded State.RunUsesPeak State.GeometryHeld
    State.IndexesLegal
  decide
theorem inv_f4Load : f4Load.Inv := by
  unfold State.Inv State.LegalN State.CountsBounded State.Sequenced State.FifoBounded State.RunUsesPeak State.GeometryHeld
    State.IndexesLegal
  decide
theorem inv_f4Auto : f4Auto.Inv := by
  unfold State.Inv State.LegalN State.CountsBounded State.Sequenced State.FifoBounded State.RunUsesPeak State.GeometryHeld
    State.IndexesLegal
  decide
theorem inv_f4AutoBad : (badGeometry f4Auto).Inv := by
  unfold State.Inv State.LegalN State.CountsBounded State.Sequenced State.FifoBounded State.RunUsesPeak State.GeometryHeld
    State.IndexesLegal
  decide

theorem witness_DecodeInvertsEncode :
    Instr.wellFormed (.angleI 65535) = true ∧ Instr.wellFormed (.angleI 0) = true ∧
      decode 0xFFFF0013 = .ok (.angleI 65535) := ⟨rfl, rfl, rfl⟩
theorem witness_AcceptedWordsMatchOneRow :
    decode 0xFFFF0013 = .ok (.angleI 65535) ∧ matchesRow 0xFFFF0013 (.angleI 0) = true ∧
      matchesRow 0xFFFF0013 (.angleI 1) = true := ⟨rfl, rfl, rfl⟩
theorem witness_IllegalWordsRaiseIllegalCmd :
    State.reset.busy = false ∧ illegalWord 0x9 ∧ illegalWord 0xF ∧ illegalWord 0x21 ∧ illegalWord 0x10 ∧
      illegalWord 0x10003 ∧ ¬illegalWord 0x8 ∧ ¬illegalWord 0x10013 := by
  unfold illegalWord
  exact ⟨rfl, by decide, by decide, by decide, by decide, by decide, by decide, by decide⟩
/-- A CMD write of an illegal word, idle and busy, is answered OK. -/
theorem test_illegal_write :
    v1.busWrite 0x010 0x9 0b1111 = .next ((v1.recordErr .illegalCmd 0x9).respond (.write false)) ∧
      v1Corr.busWrite 0x010 0x9 0b1111 = .next ((v1Corr.recordErr .cmdBusy 0x9).respond (.write false)) := ⟨rfl, rfl⟩
theorem witness_BusyRefusesEveryCommandButNop : v1Corr.busy = true ∧ (8 : Word) ≠ 0 := by decide
theorem witness_IssueChecksInOrder :
    State.reset.busy = false ∧ State.reset.buffersFull = false ∧ State.reset.status.resValid = false ∧
      State.reset.status.peakValid = false ∧
      (badGeometry v1).busy = false ∧ (badGeometry v1).buffersFull = true ∧ (badGeometry v1).geometryValid = false ∧
      (badGeometry p8Found).busy = false ∧ (badGeometry p8Found).status.peakValid = true ∧
      (badGeometry p8Found).geometryValid = false := by decide
/-- The index check's two sides meet at 2N−2 = 498. -/
theorem witness_IssueChecksInOrder_index :
    State.reset.busy = false ∧ (499 < 65536 ∧ 2 * (State.reset.n : Int) - 2 < (499 : Nat)) ∧
      (badGeometry State.reset).busy = false ∧ (498 < 65536 ∧ ((498 : Nat) : Int) ≤ 2 * ((badGeometry State.reset).n : Int) - 2) ∧
      (badGeometry State.reset).geometryValid = false := by decide
theorem witness_RejectedCommandChangesOnlyErrors :
    Instr.run ≠ .sreset ∧ exec .run State.reset = .next (State.reset.recordErr .length 4) ∧
      (State.reset.recordErr .length 4).error ≠ State.reset.error := ⟨by decide, rfl, by decide⟩
theorem witness_CorrIssueEffect : v1.busy = false ∧ v1.buffersFull = true ∧ v1.geometryValid = true := by decide
/-- 44_control.md R210: OP = 0 with the last bit of IMM16 set, idle and busy. -/
theorem witness_NopChangesNothing :
    opField 0x80000000 = 0 ∧ (0x80000000 : Word) ≠ 0 ∧ v1.busy = false ∧ v1Corr.busy = true := by decide
theorem witness_AngleIssueEffect :
    p8Found.busy = false ∧ p8Found.geometryValid = true ∧ p8Found.status.peakValid = true ∧
      2 < 65536 ∧ ((2 : Nat) : Int) ≤ 2 * (p8Found.n : Int) - 2 ∧ 0 < 65536 := by decide
theorem witness_PeakIssueEffect :
    (withResult [-2, 0, 0]).busy = false ∧ (withResult [-2, 0, 0]).status.resValid = true := by decide
theorem witness_ClrbufAckFlushEffects :
    p8Found.busy = false ∧ v1.busy = false ∧ v1.status.done = false ∧ v1.status.frameRdy = false := by decide
theorem witness_SresetEffect : p8Found.busy = false ∧ v1Corr.busy = true := by decide
/-- Each clause of the frame: an instruction its hypothesis admits, answering a next state. -/
theorem witness_CommandFrame :
    exec .corrX v1 = .next v1Corr ∧ exec .flush v1 = .next v1.flushFifo ∧ exec .clrbuf v1 = .next v1.clearBuffers ∧
      exec .nop v1 = .next v1 ∧ exec .sreset v1 = .next v1.softReset := ⟨rfl, rfl, rfl, rfl, rfl⟩
theorem witness_LoadStageEffect :
    f4Load.Inv ∧ f4Load.status.stage = .load ∧ f4Load.cfg.ctrl.getLsbD 4 = false ∧ f4Auto.Inv ∧ f4Auto.status.stage = .load ∧
      f4Auto.cfg.ctrl.getLsbD 4 = true := ⟨inv_f4Load, rfl, by decide, inv_f4Auto, rfl, by decide⟩
theorem witness_AutoRunStartsRun :
    f4Auto.Inv ∧ f4Auto.status.stage = .load ∧ f4Auto.cfg.ctrl.getLsbD 4 = true ∧ f4Auto.geometryValid = true ∧
      (badGeometry f4Auto).Inv ∧ (badGeometry f4Auto).geometryValid = false :=
  ⟨inv_f4Auto, rfl, by decide, by decide, inv_f4AutoBad, by decide⟩
theorem witness_CorrStageEffect :
    v1Corr.status.stage = .corr ∧ v1Corr.eng.chain = .single ∧ v1Run.status.stage = .corr ∧ v1Run.eng.chain = .run ∧
      6 < v1Corr.resultLen ∧ v1Corr.resultLen ≤ 7 := by decide
/-- V-C6 at both ends of the range of result indexes, and in the middle. -/
theorem witness_CorrelationFormulas :
    (1 ≤ 2 ∧ 0 ≤ 2 * 2 - 2 ∧ 2 ≤ 2 * 2 - 2) ∧
      correlate .cross (fun j => [127, -128].getD j 0) (fun j => [-128, 127].getD j 0) 2 0 = 16384 ∧
      correlate .conv (fun j => [127, -128].getD j 0) (fun j => [-128, 127].getD j 0) 2 1 = 32513 := by decide
theorem witness_SumsAreExact :
    (1024 ≤ 1024 ∧ 0 ≤ 1024) ∧ ((-(2 ^ 24 : Int) ≤ -(2 ^ 24) ∧ -(2 ^ 24 : Int) ≤ 2 ^ 24)) := by decide
theorem witness_AnyAccumulationOrder : [2, 0, 1].Perm (List.range 3) := by decide
theorem witness_ModeIdentities : 1 ≤ 1 ∧ 0 ≤ 2 * 1 - 2 ∧ 1 ≤ 1024 ∧ 2046 ≤ 2 * 1024 - 2 := by decide
theorem witness_AutocorrelationPeaksAtZeroLag :
    1 ≤ 2 ∧ (∃ j, j < 2 ∧ (fun k => if k = 1 then (-1 : Int) else 0) j ≠ 0) ∧ 2 ≤ 2 * 2 - 2 ∧ 2 ≠ 2 - 1 :=
  ⟨by decide, ⟨1, by decide, by decide⟩, by decide, by decide⟩
theorem witness_SignedScanFindsFirstMaximum :
    0 < (scanMax (fun i => [-2, 0, 0].getD i 0) 2).2 ∧ (scanMax (fun i => [-2, 0, 0].getD i 0) 2) = (0, 1) := by decide
theorem witness_MagnitudeScanFindsFirstMaximum :
    1 ≤ 3 ∧ scanAbs (fun i => [-2, 0, 0].getD i 0) 3 = (2, 0) ∧ scanAbs (fun _ => 0) 3 = (0, 0) := by decide
theorem witness_PeakStageEffect :
    p8Peak.Inv ∧ p8Peak.status.stage = .peak ∧ p8Peak.eng.chain = .single ∧ v1Run.engineStep.status.stage = .peak ∧
      v1Run.engineStep.eng.chain = .run := ⟨inv_p8Peak, by decide⟩
theorem witness_AngleStageEffect :
    a1Angle.Inv ∧ a1Angle.status.stage = .angle ∧ a1Angle.eng.amode = false ∧
      ({ State.reset with cfg := { State.reset.cfg with ctrl := 0x4 } }.startAngle .imm 248).eng.amode = true :=
  ⟨inv_a1Angle, by decide⟩
theorem witness_RunIsCorrPeakAngle :
    v1.Inv ∧ v1.busy = false ∧ v1.buffersFull = true ∧ v1.geometryValid = true := ⟨inv_v1, by decide⟩
/-- A tie to even, an overflow, the largest finite value and the least subnormal. -/
theorem witness_RoundsToNearestEven :
    0 < 2 ^ 24 + 1 ∧ 0 < 1 ∧ F32.roundMag (2 ^ 24 + 1) 1 = 0x4B800000 ∧
      F32.roundMag (2 ^ 128 - 2 ^ 103) 1 = F32.infMag ∧ F32.roundMag (2 ^ 128 - 2 ^ 103 - 1) 1 = F32.infMag - 1 ∧
      F32.roundMag 1 (2 ^ 149) = 1 ∧ F32.roundMag 1 (2 ^ 150) = 0 := by decide
/-- −1.5 times 2^-149 (a tie, in subnormals) and 1.0 over 3.0. -/
theorem witness_RoundsToNearestEven_ops :
    F32.isFinite 0xBFC00000 = true ∧ F32.isFinite 1 = true ∧ 0 < 2 ^ 150 ∧
      F32.mul 0xBFC00000 1 = F32.withSign true (F32.roundMag 3 (2 ^ 150)) ∧
      F32.roundMag 3 (2 ^ 150) = 2 ∧ F32.div 0x3F800000 0x40400000 = F32.withSign false (F32.roundMag 1 3) ∧
      F32.roundMag 1 3 = 0x3EAAAAAB := by decide
theorem witness_RoundsToNearestEven_values :
    ((3 : Nat) : ℚ) / ((2 ^ 150 : Nat) : ℚ) = |F32.toRat 0xBFC00000 * F32.toRat 1| ∧ F32.toRat 0x40400000 ≠ 0 ∧
      ((1 : Nat) : ℚ) / (3 : Nat) = |F32.toRat 0x3F800000 / F32.toRat 0x40400000| := by
  have h1 : F32.toRat 0xBFC00000 = -(3 / 2) := by
    rw [F32.toRat, show F32.sign 0xBFC00000 = true from by decide, show F32.mant 0xBFC00000 = 12582912 from by decide,
      show F32.unitExp 0xBFC00000 = -23 from by decide]
    norm_num
  have h2 : F32.toRat 1 = 1 / 2 ^ 149 := by
    rw [F32.toRat, show F32.sign 1 = false from by decide, show F32.mant 1 = 1 from by decide,
      show F32.unitExp 1 = -149 from by decide]
    norm_num
  have h3 : F32.toRat 0x40400000 = 3 := by
    rw [F32.toRat, show F32.sign 0x40400000 = false from by decide, show F32.mant 0x40400000 = 12582912 from by decide,
      show F32.unitExp 0x40400000 = -22 from by decide]
    norm_num
  have h4 : F32.toRat 0x3F800000 = 1 := by
    rw [F32.toRat, show F32.sign 0x3F800000 = false from by decide, show F32.mant 0x3F800000 = 8388608 from by decide,
      show F32.unitExp 0x3F800000 = -23 from by decide]
    norm_num
  rw [h1, h2, h3, h4]
  norm_num [abs_of_neg, abs_of_pos]
theorem witness_ValidGeometryGivesNoNaN :
    positiveFinite 0x48742400 = true ∧ positiveFinite 0x00000001 = true ∧ positiveFinite 0x7F7FFFFF = true ∧
      positiveFinite 0x7F800000 = false ∧ positiveFinite 0x80000001 = false ∧ positiveFinite 0 = false := by decide
/-- An infinity and a zero of either sign, and the least and greatest positive finite numbers. -/
theorem witness_ValidGeometryGivesNoNaN_kept :
    F32.isInf 0xFF800000 = true ∧ F32.isZero 0x80000000 = true ∧ F32.mul 0xFF800000 1 = 0xFF800000 ∧
      F32.div 0xFF800000 0x7F7FFFFF = 0xFF800000 ∧ F32.mul 0x80000000 0x7F7FFFFF = 0x80000000 ∧
      F32.div 0x80000000 1 = 0x80000000 := by decide
/-- The clamp's three cases, at +1.0, at the next number up, and at −infinity. -/
theorem witness_ClampIntoUnitRange :
    F32.isNan 0x3F800000 = false ∧ (clampArg 0x3F800000).2 = false ∧ F32.isNan 0x3F800001 = false ∧
      F32.lt F32.one 0x3F800001 = true ∧ F32.isNan 0xFF800000 = false ∧ F32.lt 0xFF800000 F32.negOne = true := by
  decide
/-- The order at the two zeros, across the subnormals' edge, at the greatest finite value, and on a NaN. -/
theorem witness_ClampIntoUnitRange_order :
    F32.isFinite 0x80000000 = true ∧ F32.isFinite 0x7F7FFFFF = true ∧ F32.lt 0x80000000 0 = false ∧
      F32.le 0 0x80000000 = true ∧ F32.lt 0x007FFFFF 0x00800000 = true ∧ F32.lt 0x80000001 0x80000000 = true ∧
      F32.lt 0x7F7FFFFF 0x7F800000 = true ∧ F32.isNan 0x7F800001 = true ∧ F32.le 0x7F800001 0x7F800001 = false := by decide
theorem witness_ZeroLagGivesNegativeZero :
    let s := State.reset.startAngle .imm 249
    s.status.stage = .angle ∧ s.geometryValid = true ∧ s.lagOf s.angleIndex.toNat = 0 ∧ s.eng.amode = false := by decide
theorem witness_SaturatedAngleIsNinety :
    let s := State.reset.startAngle .imm 286
    (s.status.stage = .angle ∧ s.eng.amode = false ∧ s.engineStep.status.sat = true ∧
        F32.lt 0 s.engineStep.angle.argRaw = true) ∧
      a1Angle.status.stage = .angle ∧ a1Angle.eng.amode = false ∧ a1Angle.engineStep.status.sat = true ∧
      F32.lt a1Angle.engineStep.angle.argRaw 0 = true := by decide
theorem witness_PositiveLagNegativeBearing :
    let s := State.reset.startAngle .imm 250
    s.status.stage = .angle ∧ s.geometryValid = true ∧ s.eng.amode = false ∧ 0 < s.lagOf s.angleIndex.toNat := by decide
theorem witness_OppositeLagOppositeBearing :
    (9 : Int) ≠ 0 ∧ positiveFinite 0x473B8000 = true ∧ positiveFinite 0x43AB8000 = true ∧
      positiveFinite 0x3E4CCCCD = true ∧ argOf (delayOf 9 0x473B8000) 0x43AB8000 0x3E4CCCCD = 0x3EA4A3D7 := by decide
/-- Gate open on a mismatch and on a header at the least fill; gate closed one byte short. -/
theorem witness_DeframerStepEffect :
    (framed [0xFF, 0x00, 0xFF, 0xFF]).deframerEnabled = true ∧ (framed [0xFF, 0xFF, 3, 4]).deframerEnabled = true ∧
      (framed [0xFF, 0xFF, 3]).deframerEnabled = false ∧
      (framed [0xFF, 0x00, 0xFF, 0xFF]).deframerStep.ingest.fifo = [0x00, 0xFF, 0xFF] ∧
      (framed [0xFF, 0xFF, 3, 4]).deframerStep.ingest.fifo = [3, 4] := by decide
/-- V-F3 with its frame, junk 0xFF 0x00. -/
theorem witness_ResynchronisesOnFrame :
    let s := framed [0xFF, 0x00, 0xFF, 0xFF, 7, 8]
    s.ingest.fifo = [0xFF, 0x00] ++ 0xFF :: 0xFF :: [7, 8] ∧ 2 * s.n ≤ [(7 : Byte), 8].length ∧
      (∀ k, k < [(0xFF : Byte), 0x00].length → ¬(s.ingest.fifo[k]? = some 0xFF ∧ s.ingest.fifo[k + 1]? = some 0xFF)) ∧
      s.cfg.ctrl.getLsbD 3 = true ∧ s.status.stage = .idle ∧ s.status.done = false ∧ s.status.frameRdy = false := by decide
/-- The port and STREAM_IN on a FIFO with one free place and on a full one. -/
theorem witness_StreamPortAndStreamIn :
    let b := { Config.Build.default with nMax := 1, nReset := 1, fifoDepth := 4 }
    let s := { framed [1, 2, 3] with build := b, env := { Env.quiet with streamSource := [9] } }
    s.ingest.fifo.length < s.build.fifoDepth ∧ s.env.streamSource = 9 :: [] ∧ s.streamStep.ingest.fifo = [1, 2, 3, 9] ∧
      s.streamStep.build.fifoDepth ≤ s.streamStep.ingest.fifo.length := by decide
/-- V-F13. -/
theorem witness_PushWrites :
    v1Corr.busy = true ∧ v1.busy = false ∧ v1.buf.aCount.toNat = v1.n ∧ v1.buf.bCount.toNat = v1.n ∧ State.reset.busy = false ∧
      State.reset.buf.aCount.toNat ≠ State.reset.n ∧ State.reset.buf.bCount.toNat ≠ State.reset.n := by decide
/-- Where the clauses meet, in the least and the greatest build. -/
theorem witness_AddressMap :
    let b := { Config.Build.default with nMax := 1, nReset := 1 }
    b.wellFormed = true ∧ targetAt b 0x1000 = some (.sampleA 0) ∧ targetAt b 0x1004 = none ∧
      targetAt b 0x6000 = some (.lut 0) ∧ targetAt b 0x7FFF = none ∧
      targetAt Config.Build.default 0x1FFC = some (.sampleA 1023) ∧ targetAt Config.Build.default 0x2FFC = some (.sampleB 1023) ∧
      targetAt Config.Build.default 0x5FF8 = some (.result 2046) ∧ targetAt Config.Build.default 0x5FFC = none ∧
      targetAt Config.Build.default 0x7FFC = none ∧ targetAt Config.Build.default 0x084 = some (.reg .corrT1) ∧
      targetAt Config.Build.default 0x088 = none ∧ targetAt Config.Build.default 0x3000 = none := by decide
theorem witness_RefusedAccesses :
    (0x026 : Offset).toNat % 4 ≠ 0 ∧ (0b0011 : BitVec 4) ≠ 0b1111 ∧ targetAt State.reset.build 0x088 = none ∧
      0x1000 ≤ (0x5FFC : Offset).toNat ∧ (0x5FFC : Offset).toNat < 0x6000 ∧
      busCheck State.reset 0x026 .read = .error .bus ∧ busCheck v1Corr 0x008 (.write 0b1111) = .error .busyAccess := by
  decide
theorem witness_BusyAccessTable :
    v1Corr.busy = true ∧ 0x1000 ≤ (0x6000 : Offset).toNat ∧ (0x6000 : Offset).toNat % 4 = 0 ∧
      targetAt v1Corr.build 0x6000 = some (.lut 0) := by decide
theorem witness_ReadsHaveNoSideEffect :
    busCheck v1 0x1000 .read = .ok (.sampleA 0) ∧ busCheck v1Corr 0x00C .read = .ok (.reg .status) ∧ v1.busy = false ∧
      v1.Inv ∧ v1.build.wellFormed = true ∧ 1023 < v1.build.nMax ∧ 2046 < 2 * v1.build.nMax - 1 :=
  ⟨by decide, by decide, by decide, inv_v1, by decide, by decide, by decide⟩
/-- V-F4 and V-F8: a sample of −1 reads sign-extended. -/
theorem test_read_sample : ((full [-1] [127]).busRead 0x1000).env.resp = .read false 0xFFFFFFFF ∧
    ((full [-1] [127]).busRead 0x2000).env.resp = .read false 0x0000007F := by decide
theorem witness_WrittenRegistersReadBack :
    v1.busy = false ∧ v1.build.wellFormed = true ∧ 2046 < 2 * v1.build.nMax - 1 := by decide
theorem witness_CfgNWrite :
    v1Corr.busy = true ∧ v1.busy = false ∧ (0 : Word).toNat < 1 ∧ v1.build.nMax < (1025 : Word).toNat ∧
      1 ≤ (1024 : Word).toNat ∧ (1024 : Word).toNat ≤ v1.build.nMax := by decide
/-- V-X2: the first error is captured, a later one is not. -/
theorem witness_ErrorRecordRules :
    State.reset.error.err = 0 ∧ (State.reset.recordErr .noResult 2).error = { err := 0x8, cause := 4, info := 2 } ∧
      ((State.reset.recordErr .noResult 2).recordErr .illegalCmd 0xA).error = { err := 0x9, cause := 4, info := 2 } := by
  decide
theorem witness_HardwareResetState :
    let s := hostNext .assertReset v1Corr
    let u : State := { v1 with env := { Env.quiet with rstN := false, schedule := [.host], hostProgram := [.releaseReset] } }
    p8Found.build.wellFormed = true ∧ s.turnOf = .host ∧ s.env.rstN = true ∧ s.env.hostProgram = .assertReset :: [] ∧
      u.turnOf = .host ∧ u.env.rstN = false ∧ u.env.hostProgram = .releaseReset :: [] := by decide
theorem witness_StepRunsTheCommandWritten :
    let s := hostNext (.write 0x010 0x4 0b1111) v1
    s.turnOf = .host ∧ s.env.rstN = true ∧ s.env.hostProgram = .write 0x010 0x4 0b1111 :: [] ∧ decode 0x4 = .ok .run :=
  ⟨rfl, rfl, rfl, rfl⟩
/-- One state for each agent's turn and for each action of the host. -/
theorem witness_StepRunsTheCommandWritten_turns :
    let turn (g : Agent) : State := { v1Corr with env := { Env.quiet with schedule := [g] } }
    (turn .engine).env.rstN = true ∧ (turn .engine).turnOf = .engine ∧ (turn .deframer).turnOf = .deframer ∧
      (turn .stream).turnOf = .stream ∧ (turn .host).turnOf = .host ∧ (turn .host).env.hostProgram = [] ∧
      (turn .host).env.rstN = true ∧
      (hostNext (.read 0x004) v1).turnOf = .host ∧ (hostNext (.read 0x004) v1).env.hostProgram = .read 0x004 :: [] ∧
      (hostNext (.write 0x008 1 0b0011) v1).env.hostProgram = .write 0x008 1 0b0011 :: [] ∧
      (hostNext (.poll 0 false) v1Corr).env.hostProgram = .poll 0 false :: [] ∧
      v1Corr.statusWord.getLsbD 0 = true ∧ v1.statusWord.getLsbD 0 = false := by decide
/-- A turn in reset: another agent's, and the host's with an access, a driven pin, or nothing. -/
theorem witness_OnlyAccessesInResetStop :
    let low (g : Agent) (p : List HostAction) : State :=
      { v1 with env := { Env.quiet with rstN := false, schedule := [g], hostProgram := p } }
    v1.env.rstN = true ∧ (low .engine []).env.rstN = false ∧ (low .engine []).turnOf ≠ .host ∧
      (∀ p, (low .host p).env.rstN = false ∧ (low .host p).turnOf = .host ∧ (low .host p).env.hostProgram = p) ∧
      HostAction.read 0x000 ≠ .assertReset ∧ HostAction.read 0x000 ≠ .releaseReset :=
  ⟨rfl, rfl, by decide, fun _ => ⟨rfl, rfl, rfl⟩, by decide, by decide⟩
theorem witness_StagesComplete :
    v1Corr.busy = true ∧ f4Auto.busy = true ∧ f4Auto.env.rstN = true ∧ f4Auto.env.schedule = [] := by decide
/-- A byte written to STREAM_IN while the CORR stage runs. -/
theorem witness_BusyFreezesOperands :
    let s := hostNext (.write 0x044 0x55 0b1111) v1Corr
    s.env.rstN = true ∧ s.busy = true ∧ s.turnOf ≠ .engine ∧
      (s.turnOf = .host → ∀ a rest, s.env.hostProgram = a :: rest → a ≠ .assertReset) ∧
      ∃ t, step s = .next t ∧ t.ingest.fifo = [0x55] := by
  refine ⟨rfl, rfl, by decide, ?_, _, rfl, rfl⟩
  intro _ a rest h
  cases h
  decide
/-- A byte written to STREAM_IN while LOAD runs goes behind the payload at the FIFO's head. -/
theorem witness_BusyFreezesOperands_load :
    let s := hostNext (.write 0x044 0x55 0b1111) f4Load
    s.busy = true ∧ s.env.rstN = true ∧ ∃ t, step s = .next t ∧ t.ingest.fifo = s.ingest.fifo ++ [0x55] :=
  ⟨rfl, rfl, _, rfl, rfl⟩
/-- A stream byte while the CORR stage runs and a reset waits in the host's sequence. -/
theorem witness_BusyFreezesOperands_stream :
    let s : State := { v1Corr with
      env := { Env.quiet with schedule := [.stream], hostProgram := [.assertReset], streamSource := [9] } }
    s.env.rstN = true ∧ s.busy = true ∧ s.turnOf ≠ .engine ∧ s.turnOf ≠ .host ∧
      ∃ t, step s = .next t ∧ t.ingest.fifo = [9] := ⟨rfl, rfl, by decide, by decide, _, rfl, rfl⟩
theorem witness_StepKeepsInv : v1Corr.Inv ∧ ∃ t, step v1Corr = .next t ∧ t.status.resValid = true :=
  ⟨inv_v1Corr, _, rfl, rfl⟩
theorem witness_InvAfterReset : Config.Build.default.wellFormed = true := by decide
/-- V-C3, with its result valid. -/
theorem witness_StepKeepsResultsCurrent :
    let s := { full [7] [-3] with res := cells 32 [-21], status := { Status.reset with resValid := true, done := true } }
    s.Inv ∧ s.ResultsCurrent ∧ s.status.resValid = true ∧ ∃ t, step s = .next t := by
  refine ⟨?_, ?_, rfl, _, rfl⟩
  · unfold State.Inv State.LegalN State.CountsBounded State.Sequenced State.FifoBounded State.RunUsesPeak
      State.GeometryHeld State.IndexesLegal
    decide
  · unfold State.ResultsCurrent
    decide
theorem witness_StepKeepsPeaksCurrent :
    p8Found.Inv ∧ p8Found.PeaksCurrent ∧ p8Found.status.peakValid = true ∧ ∃ t, step p8Found = .next t := by
  refine ⟨inv_p8Found, ?_, rfl, _, rfl⟩
  unfold State.PeaksCurrent
  decide
/-- An engine step that completes CORR while a push and then a reset wait in the host's sequence. -/
theorem witness_WhoWritesTheRams_engine :
    let s : State := { v1Corr with
      env := { Env.quiet with schedule := [.engine], hostProgram := [.write 0x03C 1 0b1111, .assertReset] } }
    s.turnOf ≠ .host ∧ ¬(s.turnOf = .engine ∧ s.status.stage = .load) ∧ ∃ t, step s = .next t ∧ t.status.resValid = true :=
  ⟨by decide, by decide, _, rfl, rfl⟩
/-- A host that writes FLUSH while the block is idle: no push, no stage. -/
theorem witness_WhoWritesTheRams :
    let s := hostNext (.write 0x010 0x7 0b1111) v1
    (∃ t, step s = .next t) ∧
      (s.turnOf = .host → ∀ a rest, s.env.hostProgram = a :: rest → a ≠ .assertReset ∧ a ≠ .releaseReset) ∧
      ¬(s.turnOf = .engine ∧ s.status.stage = .load) ∧ ¬(s.turnOf = .engine ∧ s.status.stage = .corr) ∧
      (s.turnOf = .host → ∀ v rest, s.env.hostProgram ≠ .write 0x03C v 0b1111 :: rest) ∧
      (s.turnOf = .host → ∀ v rest, s.env.hostProgram ≠ .write 0x040 v 0b1111 :: rest) := by
  refine ⟨⟨_, rfl⟩, ?_, by decide, by decide, ?_, ?_⟩
  · intro _ a rest h
    cases h
    exact ⟨by decide, by decide⟩
  · intro _ v rest h
    exact absurd (congrArg List.head? h) (by simp [hostNext])
  · intro _ v rest h
    exact absurd (congrArg List.head? h) (by simp [hostNext])
/-- A round of `wait` on an idle block and on a busy one; the sample range's two ends. -/
theorem witness_HostLinesAndWait :
    let s := hostNext (.poll 0 false) v1
    let u := hostNext (.poll 0 false) v1Corr
    s.env.rstN = true ∧ s.env.hostProgram = .poll 0 false :: [] ∧ s.busy = false ∧ u.env.rstN = true ∧
      u.env.hostProgram = .poll 0 false :: [] ∧ u.busy = true ∧ 65535 < 65536 ∧ (-128 : Int) ≤ -128 ∧ (127 : Int) ≤ 127 := by
  decide
theorem witness_EndedRunStaysQuiet : v1.RunEnded ∧ p8Found.RunEnded := by
  unfold State.RunEnded
  decide

end Sys2Proof.Tests
end

section
/-! PROOF. O28: rounding to nearest, ties to even (00_scope.md R13; 42_angle.md R165). The rounded pattern before the overflow
clamp, `nearMag`, is a nearest one among all magnitude patterns, those past the format's range included; the overflow threshold
is then the midpoint of the two patterns around `infMag`. -/

namespace Sys2Proof.F32

/-! The rounded integer. -/

/-- Twice the signed distance of the rounded integer from `n / d`, times `d`, is at most `d`, and below it unless the integer is
even. -/
theorem roundQuot_near (n : Nat) {d : Nat} (hd : 0 < d) :
    |2 * ((roundQuot n d : Int) * d - n)| ≤ d ∧ (|2 * ((roundQuot n d : Int) * d - n)| = d → roundQuot n d % 2 = 0) := by
  have hn : (n : Int) = d * (n / d : Nat) + (n % d : Nat) := by exact_mod_cast (Nat.div_add_mod n d).symm
  have hr : n % d < d := Nat.mod_lt n hd
  unfold roundQuot
  dsimp only
  split
  case isTrue h =>
    have hx : 2 * (((n / d + 1 : Nat) : Int) * d - n) = 2 * (d - (n % d : Nat)) := by rw [hn]; push_cast; ring
    rw [hx, abs_of_nonneg (by omega)]
    exact ⟨by omega, by omega⟩
  case isFalse h =>
    have hx : 2 * (((n / d : Nat) : Int) * d - n) = -(2 * (n % d : Nat)) := by rw [hn]; push_cast; ring
    rw [hx, abs_neg, abs_of_nonneg (by omega)]
    exact ⟨by omega, by omega⟩

/-- No natural number is nearer `n / d` than the rounded one, and where another is as near the rounded one is even. -/
theorem roundQuot_nearest (n : Nat) {d : Nat} (hd : 0 < d) (j : Nat) :
    |(roundQuot n d : ℚ) - (n : ℚ) / d| ≤ |(j : ℚ) - (n : ℚ) / d| ∧
      (|(roundQuot n d : ℚ) - (n : ℚ) / d| = |(j : ℚ) - (n : ℚ) / d| → j = roundQuot n d ∨ roundQuot n d % 2 = 0) := by
  have hd0 : (0 : ℚ) < d := by exact_mod_cast hd
  have scale : ∀ i : Nat, |(i : ℚ) - (n : ℚ) / d| = ((|2 * ((i : Int) * d - n)| : Int) : ℚ) / (2 * d) := by
    intro i
    rw [show (i : ℚ) - (n : ℚ) / d = ((2 * ((i : Int) * d - n) : Int) : ℚ) / (2 * d) by push_cast; field_simp, abs_div,
      abs_of_pos (by positivity : (0 : ℚ) < 2 * d), Int.cast_abs]
  obtain ⟨hle, heven⟩ := roundQuot_near n hd
  by_cases hj : j = roundQuot n d
  · subst hj
    simp
  have far : (d : Int) ≤ |2 * ((j : Int) * d - n)| := by
    have hstep : (2 * d : Int) ≤ |2 * ((j : Int) * d - n) - 2 * ((roundQuot n d : Int) * d - n)| := by
      rw [show 2 * ((j : Int) * d - n) - 2 * ((roundQuot n d : Int) * d - n) = (j - roundQuot n d) * (2 * d) by ring, abs_mul,
        abs_of_nonneg (by positivity : (0 : Int) ≤ 2 * d)]
      exact le_mul_of_one_le_left (by positivity) (Int.one_le_abs (sub_ne_zero.2 (by exact_mod_cast hj)))
    have := abs_sub (2 * ((j : Int) * d - n)) (2 * ((roundQuot n d : Int) * d - n))
    omega
  rw [scale, scale j, div_le_div_iff_of_pos_right (by positivity), div_left_inj' (by positivity), Int.cast_le, Int.cast_inj]
  exact ⟨hle.trans far, fun h => .inr (heven (le_antisymm hle (h ▸ far)))⟩

/-- A whole number no lower than `n / d` bounds the rounded integer above, one no higher bounds it below. -/
theorem roundQuot_bounds (n : Nat) {d : Nat} (hd : 0 < d) (c : Nat) :
    ((n : ℚ) / d ≤ c → roundQuot n d ≤ c) ∧ ((c : ℚ) ≤ (n : ℚ) / d → c ≤ roundQuot n d) := by
  obtain ⟨near, -⟩ := roundQuot_nearest n hd c
  constructor <;> intro h <;> by_contra hc
  · have hlt : (c : ℚ) < roundQuot n d := by exact_mod_cast not_le.1 hc
    rw [abs_of_pos (by linarith), abs_of_nonneg (by linarith)] at near
    linarith
  · have hlt : (roundQuot n d : ℚ) < c := by exact_mod_cast not_le.1 hc
    rw [abs_of_neg (by linarith), abs_of_nonpos (by linarith)] at near
    linarith

/-! Magnitude patterns in units of `2 ^ (e - 149)`. -/

/-- A significand of at most 24 bits above exponent step `e`, carrying into the exponent field where it has 24 or 25 bits. -/
theorem magValue_pack {e m : Nat} (hm : m ≤ 2 ^ 24) (he : e = 0 ∨ 2 ^ 23 ≤ m) :
    magValue (e * 2 ^ 23 + m) = m * (2 : ℚ) ^ ((e : Int) - 149) := by
  unfold magValue
  rcases Nat.lt_or_ge m (2 ^ 23) with h | h
  · obtain rfl : e = 0 := by omega
    have hq : (0 * 2 ^ 23 + m) / 2 ^ 23 = 0 := by omega
    have hr : (0 * 2 ^ 23 + m) % 2 ^ 23 = m := by omega
    rw [hq, hr]
    norm_num
  rcases Nat.lt_or_eq_of_le hm with h' | rfl
  · have hq : (e * 2 ^ 23 + m) / 2 ^ 23 = e + 1 := by omega
    have hr : (e * 2 ^ 23 + m) % 2 ^ 23 = m - 2 ^ 23 := by omega
    rw [hq, hr, if_neg (by omega), Nat.sub_add_cancel h, Nat.max_eq_left (by omega)]
    congr 2
    push_cast
    ring
  · have hq : (e * 2 ^ 23 + 2 ^ 24) / 2 ^ 23 = e + 2 := by omega
    have hr : (e * 2 ^ 23 + 2 ^ 24) % 2 ^ 23 = 0 := by omega
    rw [hq, hr, if_neg (by omega), Nat.max_eq_left (by omega),
      show ((e + 2 : Nat) : Int) - 150 = ((e : Int) - 149) + 1 by push_cast; ring, zpow_add_one₀ two_ne_zero]
    push_cast
    ring

/-- From exponent step `e` on, every pattern's value is a whole number of units. -/
theorem magValue_multiple {e y : Nat} (h : e = 0 ∨ (e + 1) * 2 ^ 23 ≤ y) :
    ∃ j : Nat, magValue y = j * (2 : ℚ) ^ ((e : Int) - 149) := by
  obtain ⟨f, hf⟩ : ∃ f, max (y / 2 ^ 23) 1 = e + 1 + f := ⟨max (y / 2 ^ 23) 1 - (e + 1), by omega⟩
  refine ⟨(if y / 2 ^ 23 = 0 then y % 2 ^ 23 else y % 2 ^ 23 + 2 ^ 23) * 2 ^ f, ?_⟩
  unfold magValue
  rw [hf, show ((e + 1 + f : Nat) : Int) - 150 = (f : Int) + ((e : Int) - 149) by push_cast; ring, zpow_add₀ two_ne_zero,
    zpow_natCast, Nat.cast_mul, Nat.cast_pow, Nat.cast_ofNat, mul_assoc]

/-! The rounded pattern before the overflow clamp. -/

/-- The magnitude pattern nearest `n / d` with the exponent unbounded: `roundMag` without the clamp at infinity. -/
def nearMag (n d : Nat) : Nat :=
  (roundUnit n d + 149).toNat * 2 ^ 23 +
    roundQuot (inUnits n d (roundUnit n d)).1 (inUnits n d (roundUnit n d)).2

theorem roundMag_eq_min {n : Nat} (hn : 0 < n) (d : Nat) : roundMag n d = min (nearMag n d) infMag := by
  rw [roundMag, if_neg hn.ne']
  rfl

/-- The unit's exponent is at least -149, and the quotient has at most 24 bits in that unit, 24 unless it is the least unit. -/
theorem roundUnit_bounds {n d : Nat} (hn : 0 < n) (hd : 0 < d) :
    -149 ≤ roundUnit n d ∧ (n : ℚ) / d / 2 ^ roundUnit n d ≤ (2 ^ 24 : Nat) ∧
      (roundUnit n d = -149 ∨ ((2 ^ 23 : Nat) : ℚ) ≤ (n : ℚ) / d / 2 ^ roundUnit n d) := by
  have hq : (0 : ℚ) < (n : ℚ) / d := div_pos (by exact_mod_cast hn) (by exact_mod_cast hd)
  have hlo : (2 : ℚ) ^ Int.log 2 ((n : ℚ) / d) ≤ (n : ℚ) / d := by exact_mod_cast Int.zpow_log_le_self (b := 2) (by norm_num) hq
  have hhi : (n : ℚ) / d < (2 : ℚ) ^ (Int.log 2 ((n : ℚ) / d) + 1) := by
    exact_mod_cast Int.lt_zpow_succ_log_self (b := 2) (by norm_num) ((n : ℚ) / d)
  have hk := roundUnit_eq hn hd
  generalize roundUnit n d = k at hk ⊢
  have pow : (0 : ℚ) < 2 ^ k := zpow_pos two_pos k
  refine ⟨by omega, ?_, ?_⟩
  · rw [div_le_iff₀ pow, Nat.cast_pow, Nat.cast_ofNat, ← zpow_natCast, ← zpow_add₀ two_ne_zero]
    exact hhi.le.trans (zpow_le_zpow_right₀ one_le_two (by omega))
  · refine or_iff_not_imp_left.2 fun h => ?_
    rw [le_div_iff₀ pow, Nat.cast_pow, Nat.cast_ofNat, ← zpow_natCast, ← zpow_add₀ two_ne_zero]
    exact (zpow_le_zpow_right₀ one_le_two (by omega)).trans hlo

/-- What `nearMag` is made of: an exponent step, and the quotient in its unit rounded to an integer of 24 bits at most. -/
theorem nearMag_parts {n d : Nat} (hn : 0 < n) (hd : 0 < d) :
    ∃ e a b : Nat, 0 < b ∧ (n : ℚ) / d = (a : ℚ) / b * 2 ^ ((e : Int) - 149) ∧
      nearMag n d = e * 2 ^ 23 + roundQuot a b ∧ roundQuot a b ≤ 2 ^ 24 ∧
      (e = 0 ∨ ((2 ^ 23 : Nat) : ℚ) ≤ (a : ℚ) / b) := by
  obtain ⟨hk, hhi, hlo⟩ := roundUnit_bounds hn hd
  have hx := inUnits_eq n d (roundUnit n d)
  have hb : 0 < (inUnits n d (roundUnit n d)).2 := Nat.mul_pos hd (Nat.pow_pos two_pos)
  refine ⟨(roundUnit n d + 149).toNat, (inUnits n d (roundUnit n d)).1, (inUnits n d (roundUnit n d)).2, hb, ?_, rfl,
    (roundQuot_bounds _ hb _).1 (hx ▸ hhi), ?_⟩
  · rw [hx, show (((roundUnit n d + 149).toNat : Nat) : Int) - 149 = roundUnit n d by omega,
      div_mul_cancel₀ _ (zpow_ne_zero _ two_ne_zero)]
  · rw [hx]
    exact hlo.imp_left (by omega)

/-- Below `q`, the greater of two numbers is the nearer one. -/
theorem abs_sub_lt_abs_sub {a b q : ℚ} (hab : a < b) (hbq : b ≤ q) : |b - q| < |a - q| := by
  rw [abs_of_nonpos (sub_nonpos.2 hbq), abs_of_neg (sub_neg.2 (hab.trans_le hbq))]
  exact neg_lt_neg (sub_lt_sub_right hab q)

/-- No magnitude pattern, those past the format's range included, is nearer `n / d` than `nearMag`, and where another is as near
`nearMag` is even. -/
theorem nearMag_nearest {n d : Nat} (hn : 0 < n) (hd : 0 < d) (y : Nat) :
    |magValue (nearMag n d) - (n : ℚ) / d| ≤ |magValue y - (n : ℚ) / d| ∧
      (|magValue (nearMag n d) - (n : ℚ) / d| = |magValue y - (n : ℚ) / d| → y = nearMag n d ∨ nearMag n d % 2 = 0) := by
  obtain ⟨e, a, b, hb, hq, hmag, hm, he⟩ := nearMag_parts hn hd
  have hpack := magValue_pack hm (he.imp_right (roundQuot_bounds a hb _).2)
  have heven : nearMag n d % 2 = roundQuot a b % 2 := by omega
  have hpow : (0 : ℚ) < 2 ^ ((e : Int) - 149) := zpow_pos two_pos _
  rw [← hmag] at hpack
  have dist : ∀ j : ℚ, |j * 2 ^ ((e : Int) - 149) - (n : ℚ) / d| = |j - (a : ℚ) / b| * 2 ^ ((e : Int) - 149) := fun j => by
    rw [hq, ← sub_mul, abs_mul, abs_of_pos hpow]
  rw [heven, hpack, dist]
  by_cases hy : e = 0 ∨ (e + 1) * 2 ^ 23 ≤ y
  · obtain ⟨j, hj⟩ := magValue_multiple hy
    obtain ⟨hle, htie⟩ := roundQuot_nearest a hb j
    rw [hj, dist, mul_le_mul_iff_left₀ hpow, mul_left_inj' hpow.ne']
    refine ⟨hle, fun h => (htie h).imp_left fun hjm => magValue_strictMono.injective ?_⟩
    rw [hj, hpack, hjm]
  · rw [not_or, not_le] at hy
    have hlo := he.resolve_left hy.1
    have hy' : magValue y < (2 ^ 23 : Nat) * (2 : ℚ) ^ ((e : Int) - 149) := by
      rw [← magValue_pack (by norm_num) (.inr le_rfl)]
      exact magValue_strictMono (by omega)
    have hnear := (roundQuot_nearest a hb (2 ^ 23)).1
    have hlt : |((2 ^ 23 : Nat) : ℚ) - (a : ℚ) / b| * 2 ^ ((e : Int) - 149) < |magValue y - (n : ℚ) / d| := by
      have hle : ((2 ^ 23 : Nat) : ℚ) * 2 ^ ((e : Int) - 149) ≤ (n : ℚ) / d := hq ▸ mul_le_mul_of_nonneg_right hlo hpow.le
      rw [← dist]
      exact abs_sub_lt_abs_sub hy' hle
    have := (mul_le_mul_of_nonneg_right hnear hpow.le).trans_lt hlt
    exact ⟨this.le, fun h => absurd h this.ne⟩

/-! Overflow. -/

theorem magValue_infMag : magValue infMag = 2 ^ 128 := by
  rw [show infMag = 254 * 2 ^ 23 + 2 ^ 23 by rfl, magValue_pack (by norm_num) (.inr le_rfl)]
  norm_num

/-- The greatest finite value. -/
theorem magValue_pred_infMag : magValue (infMag - 1) = 2 ^ 128 - 2 ^ 104 := by
  rw [show infMag - 1 = 253 * 2 ^ 23 + (2 ^ 24 - 1) by rfl, magValue_pack (by norm_num) (.inr (by norm_num))]
  norm_num

/-- Rounding reaches infinity at the midpoint of the greatest finite value and 2^128; the tie goes up, for `infMag` is even. -/
theorem infMag_le_nearMag_iff {n d : Nat} (hn : 0 < n) (hd : 0 < d) :
    infMag ≤ nearMag n d ↔ (2 : ℚ) ^ 128 - 2 ^ 103 ≤ (n : ℚ) / d := by
  constructor
  · intro h
    by_contra hq
    rw [not_le] at hq
    have hv := magValue_strictMono.monotone h
    have hnear := (nearMag_nearest hn hd (infMag - 1)).1
    rw [magValue_infMag] at hv
    rw [magValue_pred_infMag, abs_of_pos (by linarith)] at hnear
    rcases abs_cases ((2 : ℚ) ^ 128 - 2 ^ 104 - (n : ℚ) / d) with ⟨h', -⟩ | ⟨h', -⟩ <;> rw [h'] at hnear <;> linarith
  · intro hq
    by_contra h
    have hle : nearMag n d ≤ infMag - 1 := by omega
    have hv := magValue_strictMono.monotone hle
    obtain ⟨hnear, htie⟩ := nearMag_nearest hn hd infMag
    rw [magValue_pred_infMag] at hv
    rw [magValue_infMag, abs_of_neg (by linarith)] at hnear htie
    rcases lt_or_ge ((2 : ℚ) ^ 128) ((n : ℚ) / d) with hbig | hbig
    · rw [abs_of_neg (by linarith)] at hnear
      linarith
    rw [abs_of_nonneg (by linarith)] at hnear htie
    have htop : infMag - 1 ≤ nearMag n d := by
      rw [← magValue_strictMono.le_iff_le, magValue_pred_infMag]
      linarith
    have hodd : nearMag n d % 2 = 1 := by rw [le_antisymm hle htop]; rfl
    have := htie (by linarith)
    omega

/-! Values of patterns. -/

/-- A finite or infinite magnitude with the sign bit clear is worth its magnitude. -/
theorem toRat_withSign_false {m : Nat} (hm : m ≤ infMag) : toRat (withSign false m) = magValue m := by
  have hlt : m < 2 ^ 31 := hm.trans_lt (by decide)
  have hnat : (withSign false m).toNat = m := by
    simp only [withSign, Bool.false_eq_true, if_false, BitVec.zero_or, BitVec.ofNat_eq_ofNat, BitVec.toNat_ofNat]
    omega
  rw [toRat_eq, Config.sign_eq, Config.mag_eq, hnat, Nat.mod_eq_of_lt hlt, decide_eq_false (by omega), if_neg Bool.false_ne_true]

/-- The size of a pattern's value is its significand in its unit. -/
theorem abs_toRat (x : Word) : |toRat x| = (mant x : ℚ) * 2 ^ unitExp x := by
  have hsign : |(if sign x then -1 else 1 : ℚ)| = 1 := by cases sign x <;> simp
  rw [toRat, abs_mul, abs_mul, hsign, one_mul, Nat.abs_cast, abs_of_pos (zpow_pos two_pos _)]

theorem toRat_of_isZero {x : Word} (h : isZero x = true) : toRat x = 0 := by
  rw [toRat_eq, show mag x = 0 by simpa [isZero] using h, magValue_zero, neg_zero, ite_self]

theorem mant_pos_of_toRat_ne_zero {x : Word} (h : toRat x ≠ 0) : 0 < mant x := by
  refine Nat.pos_of_ne_zero fun hm => h ?_
  rw [toRat, hm, Nat.cast_zero, mul_zero, zero_mul]

/-- A finite pattern is no NaN and no infinity. -/
theorem not_isNan_isInf_of_isFinite {x : Word} (h : isFinite x = true) : isNan x = false ∧ isInf x = false := by
  have he : (expo x == 255) = false := by simpa [isFinite] using h
  simp [isNan, isInf, he]

/-- Rounding `a / b · 2 ^ e` is rounding any quotient of that value. -/
theorem roundScaled_eq_roundMag {a b n d : Nat} {e : Int} (hb : 0 < b) (hd : 0 < d)
    (h : (n : ℚ) / d = (a : ℚ) / b * 2 ^ e) : roundScaled a b e = roundMag n d := by
  have hscale := inUnits_eq a b (-e)
  simp only [inUnits, neg_neg, zpow_neg, div_inv_eq_mul] at hscale
  have hb' : 0 < b * 2 ^ (-e).toNat := Nat.mul_pos hb (Nat.pow_pos two_pos)
  refine roundMag_congr hb' hd ?_
  rw [← hscale, div_eq_div_iff (by exact_mod_cast hd.ne') (by exact_mod_cast hb'.ne')] at h
  exact_mod_cast h.symm

/-! The operations on finite operands. -/

section
variable {x y : Word} (hx : isFinite x = true) (hy : isFinite y = true)
include hx hy

theorem mul_of_isFinite :
    mul x y = withSign (sign x != sign y) (roundScaled (mant x * mant y) 1 (unitExp x + unitExp y)) := by
  obtain ⟨hxn, hxi⟩ := not_isNan_isInf_of_isFinite hx
  obtain ⟨hyn, hyi⟩ := not_isNan_isInf_of_isFinite hy
  simp [mul, hxn, hxi, hyn, hyi]

theorem div_of_isFinite (h0 : toRat y ≠ 0) :
    div x y = withSign (sign x != sign y) (roundScaled (mant x) (mant y) (unitExp x - unitExp y)) := by
  obtain ⟨hxn, hxi⟩ := not_isNan_isInf_of_isFinite hx
  obtain ⟨hyn, hyi⟩ := not_isNan_isInf_of_isFinite hy
  have hyz : isZero y = false := Bool.eq_false_iff.2 fun h => h0 (toRat_of_isZero h)
  simp [div, hxn, hxi, hyn, hyi, hyz]

/-- The product is the rounding of any quotient that equals the exact product's size. -/
theorem mul_eq_roundMag {n d : Nat} (hd : 0 < d) (h : (n : ℚ) / d = |toRat x * toRat y|) :
    mul x y = withSign (sign x != sign y) (roundMag n d) := by
  rw [mul_of_isFinite hx hy, roundScaled_eq_roundMag one_pos hd]
  rw [h, abs_mul, abs_toRat, abs_toRat, zpow_add₀ two_ne_zero]
  push_cast
  ring

/-- The quotient is the rounding of any quotient that equals the exact one's size. -/
theorem div_eq_roundMag {n d : Nat} (hd : 0 < d) (h0 : toRat y ≠ 0) (h : (n : ℚ) / d = |toRat x / toRat y|) :
    div x y = withSign (sign x != sign y) (roundMag n d) := by
  rw [div_of_isFinite hx hy h0, roundScaled_eq_roundMag (mant_pos_of_toRat_ne_zero h0) hd]
  rw [h, abs_div, abs_toRat, abs_toRat, zpow_sub₀ two_ne_zero, mul_div_mul_comm]

end

/-! The magnitude of a positive quotient. -/

section
variable {n d : Nat} (hn : 0 < n) (hd : 0 < d)
include hn

theorem roundMag_le_infMag : roundMag n d ≤ infMag := by
  rw [roundMag_eq_min hn]
  exact min_le_right _ _

theorem roundMag_eq_nearMag (h : roundMag n d < infMag) : roundMag n d = nearMag n d := by
  rw [roundMag_eq_min hn] at h ⊢
  omega

include hd

theorem roundMag_eq_infMag_iff : roundMag n d = infMag ↔ (2 : ℚ) ^ 128 - 2 ^ 103 ≤ (n : ℚ) / d := by
  rw [roundMag_eq_min hn, min_eq_right_iff, infMag_le_nearMag_iff hn hd]

/-- Below infinity the rounded pattern is a nearest finite one, even on a tie. -/
theorem roundMag_nearest (h : roundMag n d < infMag) {y : Nat} (hy : y < infMag) :
    |toRat (withSign false (roundMag n d)) - (n : ℚ) / d| ≤ |toRat (withSign false y) - (n : ℚ) / d| ∧
      (|toRat (withSign false (roundMag n d)) - (n : ℚ) / d| = |toRat (withSign false y) - (n : ℚ) / d| →
        y = roundMag n d ∨ roundMag n d % 2 = 0) := by
  rw [toRat_withSign_false h.le, toRat_withSign_false hy.le, roundMag_eq_nearMag hn h]
  exact nearMag_nearest hn hd y

end

/-- Settles O28: the unclamped rounding `nearMag` is nearest among all magnitudes, and the operations round the exact values. -/
theorem roundsToNearestEven : Obligations.RoundsToNearestEven := by
  unfold Obligations.RoundsToNearestEven
  refine ⟨fun n d hn hd => ⟨roundMag_le_infMag hn, roundMag_eq_infMag_iff hn hd, fun h y hy => roundMag_nearest hn hd h hy⟩,
    fun x y n d hx hy hd => ⟨mul_eq_roundMag hx hy hd, div_eq_roundMag hx hy hd⟩, fun d => ?_, fun k => ?_⟩
  · rw [roundMag, if_pos rfl]
  · rw [ofInt]

end Sys2Proof.F32
end

section
/-! PROOF. O50 and O60: what a step does, by whose turn it is (00_scope.md R6, R8). -/

namespace Sys2Proof.Machine

/-! The turn. -/

/-- The schedule's first entry is whose turn it is. -/
theorem State.turnOf_of_schedule {s : State} {g : Agent} {rest : List Agent} (h : s.env.schedule = g :: rest) :
    s.turnOf = g := by
  simp [State.turnOf, State.nextAgent, h]

section -- the turn of each agent of the block, `rst_n` high
variable {s : State} (hn : s.env.rstN = true)
include hn

theorem step_engine (h : s.turnOf = .engine) : step s = .next s.atTurn.engineStep := by
  rw [step_eq, h, State.turn, State.atTurn_rstN, if_pos hn]

theorem step_deframer (h : s.turnOf = .deframer) : step s = .next s.atTurn.deframerStep := by
  rw [step_eq, h, State.turn, State.atTurn_rstN, if_pos hn]

theorem step_stream (h : s.turnOf = .stream) : step s = .next s.atTurn.streamStep := by
  rw [step_eq, h, State.turn, State.atTurn_rstN, if_pos hn]

end

/-- With no action left the host's turn passes. -/
theorem step_host_nil {s : State} (h : s.turnOf = .host) (hp : s.env.hostProgram = []) : step s = .next s.atTurn := by
  rw [step_eq, h, State.turn, State.hostStep, State.atTurn_hostProgram, hp]

theorem step_host_cons {s : State} {a : HostAction} {rest : List HostAction} (h : s.turnOf = .host)
    (hp : s.env.hostProgram = a :: rest) : step s = s.atTurn.hostAct a rest := by
  rw [step_eq, h, State.turn, State.hostStep, State.atTurn_hostProgram, hp]

/-! The host's actions. -/

/-- STATUS can be read in every state (20_memory.md R83). -/
theorem State.busRead_status (s : State) : s.busRead 0x00C = s.respond (.read false s.statusWord) :=
  s.busRead_reg .status (by decide) (.inr rfl)

section
variable {s : State} (hn : s.env.rstN = true) (rest : List HostAction)
include hn

theorem State.hostAct_read (o : Offset) : s.hostAct (.read o) rest = .next ((s.programLeft rest).busRead o) := by
  rw [State.hostAct, if_pos hn]

theorem State.hostAct_write (o : Offset) (v : Word) (be : BitVec 4) :
    s.hostAct (.write o v be) rest = (s.programLeft rest).busWrite o v be := by
  rw [State.hostAct, if_pos hn]

theorem State.hostAct_poll (k : Nat) (level : Bool) :
    s.hostAct (.poll k level) rest =
      .next (if s.statusWord.getLsbD k = level then (s.respond (.read false s.statusWord)).programLeft rest
        else s.respond (.read false s.statusWord)) := by
  rw [State.hostAct, if_pos hn, State.pollStep, s.busRead_status]
  simp [pollEnds]

end

/-- A command's word written to CMD is that command, answered OK (44_control.md R211). -/
theorem State.busWrite_cmd (s : State) {w : Word} {i : Instr} (hd : decode w = .ok i) :
    s.busWrite 0x010 w 0b1111 = exec i (s.respond (.write false)) := by
  rw [show (0x010 : Offset) = BitVec.ofNat 15 Reg.cmd.offset from rfl, s.busWrite_reg .cmd w (by decide) (.inr rfl),
    State.writeReg, State.command, hd]

/-- The turn changes no bit of STATUS. -/
theorem State.atTurn_statusWord (s : State) : s.atTurn.statusWord = s.statusWord := by
  rw [State.atTurn_eq]
  rfl

theorem step_command {s : State} {w : Word} {i : Instr} {rest : List HostAction} (h : s.turnOf = .host)
    (hn : s.env.rstN = true) (hp : s.env.hostProgram = .write 0x010 w 0b1111 :: rest) (hd : decode w = .ok i) :
    step s = exec i ((s.atTurn.programLeft rest).respond (.write false)) := by
  rw [step_host_cons h hp, State.hostAct_write (by rw [State.atTurn_rstN, hn]), State.busWrite_cmd _ hd]

/-! A placed command. -/

theorem State.withFetchWord_eq_withCommand (s : State) (w : Word) : s.withFetchWord 32 w.toNat = s.withCommand w := by
  rw [State.withFetchWord, Nat.mod_eq_of_lt w.isLt, BitVec.ofNat_toNat, BitVec.setWidth_eq]

/-- A placed command's turn puts back what placing it added, but for `rst_n` (notes/assumptions/2.md). -/
theorem State.withCommand_atTurn (s : State) (w : Word) :
    ((s.withCommand w).atTurn.programLeft s.env.hostProgram).respond (.write false) =
      { s.tick with env := { s.tick.env with rstN := true, resp := .write false } } := rfl

theorem step_withFetchWord (s : State) {w : Word} {i : Instr} (hd : decode w = .ok i) :
    step (s.withFetchWord 32 w.toNat) =
      exec i { s.tick with env := { s.tick.env with rstN := true, resp := .write false } } := by
  rw [State.withFetchWord_eq_withCommand, step_command (State.turnOf_of_schedule rfl) rfl rfl hd, State.withCommand_atTurn]

/-- Settles O50, by the agent whose turn it is and the host's next action. -/
theorem stepRunsTheCommandWritten : Obligations.StepRunsTheCommandWritten := by
  unfold Obligations.StepRunsTheCommandWritten
  refine ⟨fun s w i rest => step_command, fun s w i => step_withFetchWord s, fun s hn =>
    ⟨step_engine hn, step_deframer hn, step_stream hn, fun h => ⟨step_host_nil h, fun rest => ?_⟩⟩, fun s =>
    ⟨fun g rest => State.turnOf_of_schedule, s.atTurn_eq⟩⟩
  have hn' : s.atTurn.env.rstN = true := by rw [State.atTurn_rstN, hn]
  refine ⟨fun o hp => ?_, fun o v be hp => ?_, fun k level hp => ?_⟩
  · rw [step_host_cons h hp, State.hostAct_read hn']
  · rw [step_host_cons h hp, State.hostAct_write hn']
  · rw [step_host_cons h hp, State.hostAct_poll hn', State.atTurn_statusWord]

/-! The end of a run. -/

/-- Using up a turn opens no gate: a run that has ended stays ended (00_scope.md R8). -/
theorem State.RunEnded.atTurn {s : State} (h : s.RunEnded) : s.atTurn.RunEnded := by
  obtain ⟨hp, hs, hb, hg⟩ := h
  rw [State.atTurn_eq]
  exact ⟨hp, hs, hb, hg⟩

/-- A closed gate gives the deframer no step (43_frame_ingest.md R194). -/
theorem State.deframerStep_of_not_enabled {s : State} (h : s.deframerEnabled = false) : s.deframerStep = s := by
  simp [State.deframerStep, h]

/-- At the end of a run no agent has a step: each lets its turn pass (notes/assumptions/12.md). -/
theorem State.RunEnded.turn {s : State} (h : s.RunEnded) (g : Agent) : s.turn g = .next s := by
  obtain ⟨hp, hs, hb, hg⟩ := h
  cases g with
  | host => rw [State.turn, State.hostStep, hp]
  | stream => rw [State.turn, State.streamStep, hs, ite_self]
  | engine => rw [State.turn, State.engineStep_idle (State.busy_eq_false.1 hb), ite_self]
  | deframer => rw [State.turn, State.deframerStep_of_not_enabled hg, ite_self]

/-- Settles O60: a step is an agent's turn, and at the end of a run each turn passes. -/
theorem endedRunStaysQuiet : Obligations.EndedRunStaysQuiet := by
  unfold Obligations.EndedRunStaysQuiet
  intro s h
  exact ⟨by rw [step_eq, h.atTurn.turn], h.atTurn, s.atTurn_sameOperands, s.atTurn_error, s.atTurn_ingest⟩

end Sys2Proof.Machine
end

section
/-! PROOF. O54 and O55: the machine's invariant, operation by operation, then over everything a step can do (10_state.md R32, R46;
44_control.md R220). -/

namespace Sys2Proof.Machine

/-! The invariant taken apart. -/

/-- What `State.Inv` asks of the running stage; nothing while idle. -/
structure State.StageReady (s : State) : Prop where
  done_idle : s.status.done = true → s.status.stage = .idle
  load : s.status.stage = .load → 2 * s.n ≤ s.ingest.fifo.length
  corr : s.status.stage = .corr → s.buffersFull = true ∧ s.status.resValid = false
  peak : s.status.stage = .peak → s.status.resValid = true
  angle : s.status.stage = .angle → s.angleIndex.toNat ≤ 2 * s.n - 2
  runUsesPeak : s.RunUsesPeak
  geometryHeld : s.GeometryHeld

/-- `State.Inv` with its parts named. -/
structure State.InvParts (s : State) : Prop where
  build : s.build.wellFormed = true
  legalN : s.LegalN
  counts : s.CountsBounded
  peak_res : s.status.peakValid = true → s.status.resValid = true
  res_full : s.status.resValid = true → s.buffersFull = true
  frame_full : s.status.frameRdy = true → s.buffersFull = true
  fifo_le : s.ingest.fifo.length ≤ s.build.fifoDepth
  peakIndexes : s.status.peakValid = true → s.peak.maxIdx.toNat ≤ 2 * s.n - 2 ∧ s.peak.absIdx.toNat ≤ 2 * s.n - 2
  memory : Memory.wf s
  stage : s.StageReady

theorem State.inv_iff_invParts {s : State} : s.Inv ↔ s.InvParts := by
  constructor
  · rintro ⟨hb, hN, hc, ⟨hd, hp, hr, hf, hcs, hps⟩, ⟨hl, hls⟩, hrun, hg, ⟨hpi, has⟩, hm⟩
    exact ⟨hb, hN, hc, hp, hr, hf, hl, hpi, hm, ⟨hd, hls, hcs, hps, has, hrun, hg⟩⟩
  · rintro ⟨hb, hN, hc, hp, hr, hf, hl, hpi, hm, ⟨hd, hls, hcs, hps, has, hrun, hg⟩⟩
    exact ⟨hb, hN, hc, ⟨hd, hp, hr, hf, hcs, hps⟩, ⟨hl, hls⟩, hrun, hg, ⟨hpi, has⟩, hm⟩

/-- An idle block has no running stage to satisfy. -/
theorem State.StageReady.of_idle {s : State} (hi : s.status.stage = .idle) : s.StageReady := by
  constructor <;> simp [State.RunUsesPeak, State.GeometryHeld, hi]

/-! Sizes. -/

/-- The limits of a legal build on which the registers' widths rest (00_scope.md R9). -/
theorem wellFormed_limits {b : Config.Build} (h : b.wellFormed = true) :
    1 ≤ b.nReset ∧ b.nReset ≤ b.nMax ∧ b.nMax ≤ 1024 := by
  simp only [Config.Build.wellFormed, Bool.and_eq_true, decide_eq_true_eq] at h
  omega

/-- A legal N fits the counts and its result indexes the index registers. -/
theorem State.InvParts.n_limits {s : State} (h : s.InvParts) : 1 ≤ s.n ∧ s.n ≤ s.build.nMax ∧ s.build.nMax ≤ 1024 := by
  have hN := h.legalN
  exact ⟨hN.1, hN.2, (wellFormed_limits h.build).2.2⟩

theorem State.buffersFull_iff {s : State} :
    s.buffersFull = true ↔ s.buf.aCount.toNat = s.n ∧ s.buf.bCount.toNat = s.n := by
  simp [State.buffersFull]

/-- The signed scan's index is that of a scanned cell (41_peak.md R142). -/
theorem scanMax_index_le (f : Nat → Int) (k : Nat) : (scanMax f k).2 ≤ k := by
  induction k with
  | zero => exact Nat.le_refl 0
  | succ k ih =>
    rw [scanMax]
    split
    · exact Nat.le_refl _
    · omega

/-- The magnitude scan's index is that of a scanned cell, or 0 (41_peak.md R143, R145). -/
theorem scanAbs_index_le (f : Nat → Int) (k : Nat) : (scanAbs f k).2 ≤ k - 1 := by
  induction k with
  | zero => exact Nat.le_refl 0
  | succ k ih =>
    rw [scanAbs]
    split
    · exact Nat.le_refl _
    · omega

/-- What a target mapped at an offset is: the register standing there, or a cell its RAM has. -/
def Target.MappedAt (b : Config.Build) (o : Offset) : Target → Prop
  | .reg r => r.offset = o.toNat
  | .sampleA i | .sampleB i => i < Build.sampleCells b
  | .result i | .lut i => i < Build.resultCells b

theorem regAt_offset {o : Nat} {r : Reg} (h : regAt o = some r) : r.offset = o := by
  unfold regAt at h
  simpa using List.find?_some h

theorem cellAt_lt {base size o i : Nat} (h : cellAt base size o = some i) : i < size := by
  unfold cellAt at h
  dsimp only at h
  split at h
  · cases h; assumption
  · cases h

/-- The address map names no other register and no cell past a RAM's end (20_memory.md R72). -/
theorem targetAt_mappedAt {b : Config.Build} {o : Offset} {t : Target} (h : targetAt b o = some t) : t.MappedAt b o := by
  unfold targetAt at h
  dsimp only at h
  split at h
  · obtain ⟨r, hr, rfl⟩ := Option.map_eq_some_iff.1 h
    exact regAt_offset hr
  split at h
  · obtain ⟨i, hi, rfl⟩ := Option.map_eq_some_iff.1 h
    exact cellAt_lt hi
  split at h
  · obtain ⟨i, hi, rfl⟩ := Option.map_eq_some_iff.1 h
    exact cellAt_lt hi
  split at h
  · cases h
  split at h
  · obtain ⟨i, hi, rfl⟩ := Option.map_eq_some_iff.1 h
    exact cellAt_lt hi
  · obtain ⟨i, hi, rfl⟩ := Option.map_eq_some_iff.1 h
    exact cellAt_lt hi

/-- The peak's index is one of the two scans', whichever is selected (42_angle.md R164). -/
theorem PeakRegs.selected_le {p : PeakRegs} {k : Nat} (h : p.maxIdx.toNat ≤ k ∧ p.absIdx.toNat ≤ k) (sel : Bool) :
    (if sel then p.maxIdx else p.absIdx).toNat ≤ k := by
  cases sel
  · exact h.2
  · exact h.1

theorem State.angleIndex_of_peak {s : State} (h : s.eng.src = .peak) :
    s.angleIndex = if s.eng.sel then s.peak.maxIdx else s.peak.absIdx := by
  rw [State.angleIndex, h]

/-! Resets. -/

theorem State.initial_n {b : Config.Build} (e : Env) (h : b.wellFormed = true) : (State.initial b e).n = b.nReset := by
  have := wellFormed_limits h
  change (BitVec.ofNat 32 b.nReset).toNat = b.nReset
  rw [BitVec.toNat_ofNat, Nat.mod_eq_of_lt (by omega)]

theorem State.initial_invParts {b : Config.Build} (e : Env) (h : b.wellFormed = true) : (State.initial b e).InvParts where
  build := h
  legalN := by
    have hl := wellFormed_limits h
    rw [State.LegalN, State.initial_n e h]
    exact ⟨hl.1, hl.2.1⟩
  counts := ⟨Nat.zero_le _, Nat.zero_le _⟩
  peak_res := nofun
  res_full := nofun
  frame_full := nofun
  fifo_le := Nat.zero_le _
  peakIndexes := nofun
  memory := ⟨Ram.wf_nil _, Ram.wf_nil _, Ram.wf_nil _, Ram.wf_nil _⟩
  stage := .of_idle rfl

/-! Operations: the parts an operation touches; the others carry over as they stand. -/

section
variable {s : State} (h : s.InvParts)
include h

/-- The invariant does not read the outside world, the error record or the timers. -/
theorem State.InvParts.outside (e : Env) (r : ErrorRecord) (x : Timers) :
    State.InvParts { s with env := e, error := r, time := x } :=
  { h with stage := { h.stage with } }

theorem State.InvParts.recordErr (c : Cause) (w : Word) : (s.recordErr c w).InvParts := h.outside _ _ _

theorem State.InvParts.startCorr (hf : s.buffersFull = true) (m : Mode) : (s.startCorr m).InvParts :=
  { h with
    peak_res := nofun
    res_full := nofun
    frame_full := nofun
    peakIndexes := nofun
    stage :=
      { done_idle := nofun, load := nofun, corr := fun _ => ⟨hf, rfl⟩, peak := nofun, angle := nofun, runUsesPeak := nofun
        geometryHeld := by simp [State.GeometryHeld] } }

/-- A RUN's start is a CORR start with the geometry checked and the index from the peak (44_control.md R212). -/
theorem State.InvParts.startRun (hf : s.buffersFull = true) (hg : s.geometryValid = true) : s.startRun.InvParts :=
  { h.startCorr hf s.ctrlMode with
    stage :=
      { (h.startCorr hf s.ctrlMode).stage with
        angle := nofun, runUsesPeak := fun _ _ => rfl, geometryHeld := fun _ => hg } }

theorem State.InvParts.startPeak (hr : s.status.resValid = true) : s.startPeak.InvParts :=
  { h with
    peak_res := nofun
    peakIndexes := nofun
    stage :=
      { done_idle := nofun, load := nofun, corr := nofun, peak := fun _ => hr, angle := nofun, runUsesPeak := nofun
        geometryHeld := by simp [State.GeometryHeld] } }

theorem State.InvParts.startAngle (hg : s.geometryValid = true) {src : IdxSrc} {imm : Index}
    (hi : (s.startAngle src imm).angleIndex.toNat ≤ 2 * s.n - 2) : (s.startAngle src imm).InvParts :=
  { h with
    stage :=
      { done_idle := nofun, load := nofun, corr := nofun, peak := nofun, angle := fun _ => hi, runUsesPeak := nofun
        geometryHeld := fun _ => hg } }

/-- An immediate that passes its check fits `eng.imm` (42_angle.md R161). -/
theorem State.InvParts.immediate_le {imm : Nat} (hi : (imm : Int) ≤ 2 * (s.n : Int) - 2) :
    (BitVec.ofNat 11 imm).toNat ≤ 2 * s.n - 2 := by
  have hn := h.n_limits
  rw [BitVec.toNat_ofNat, Nat.mod_eq_of_lt (by omega)]
  omega

theorem State.InvParts.softReset : s.softReset.InvParts :=
  { h with
    counts := ⟨Nat.zero_le _, Nat.zero_le _⟩
    peak_res := nofun
    res_full := nofun
    frame_full := nofun
    fifo_le := Nat.zero_le _
    peakIndexes := nofun
    stage := .of_idle rfl }

theorem State.InvParts.appendByte (b : Byte) (hl : s.ingest.fifo.length < s.build.fifoDepth) :
    (s.appendByte b).InvParts :=
  { h with
    fifo_le := by simpa using hl
    stage := { h.stage with load := fun hs => (h.stage.load hs).trans (by simp) } }

theorem State.InvParts.streamIn (v : Word) : (s.streamIn v).InvParts := by
  unfold State.streamIn
  split
  · rename_i hr; exact h.appendByte _ (by simpa [State.fifoReady] using hr)
  · exact h.recordErr _ _

theorem State.InvParts.startLoad (hd : s.status.done = false) (hl : 2 + 2 * s.n ≤ s.ingest.fifo.length) :
    s.startLoad.InvParts :=
  { h with
    fifo_le := (List.drop_sublist _ _).length_le.trans h.fifo_le
    stage :=
      { done_idle := by simp [hd]
        load := fun _ => by simpa using Nat.le_sub_of_add_le' hl
        corr := nofun, peak := nofun, angle := nofun, runUsesPeak := by simp [State.RunUsesPeak]
        geometryHeld := by simp [State.GeometryHeld] } }

/-- A count below N has room for one more sample (10_state.md R32). -/
theorem State.InvParts.count_succ {c : BitVec 11} (hc : c.toNat ≤ s.n) (hne : c.toNat ≠ s.n) :
    (c + 1).toNat ≤ s.n ∧ c.toNat < Build.sampleCells s.build := by
  have hn := h.n_limits
  refine ⟨?_, ?_⟩
  · rw [BitVec.toNat_add, show (1 : BitVec 11).toNat = 1 from rfl, Nat.mod_eq_of_lt (by omega)]
    omega
  · unfold Build.sampleCells
    omega

section -- while idle
variable (hi : s.status.stage = .idle)
include hi

theorem State.InvParts.clearBuffers : s.clearBuffers.InvParts :=
  { h with
    counts := ⟨Nat.zero_le _, Nat.zero_le _⟩
    peak_res := nofun
    res_full := nofun
    frame_full := nofun
    peakIndexes := nofun
    stage := .of_idle hi }

theorem State.InvParts.acknowledge : s.acknowledge.InvParts :=
  { h with frame_full := nofun, stage := .of_idle hi }

theorem State.InvParts.flushFifo : s.flushFifo.InvParts :=
  { h with fifo_le := Nat.zero_le _, stage := .of_idle hi }

theorem State.InvParts.discardByte : s.discardByte.InvParts :=
  { h with fifo_le := (List.drop_sublist _ _).length_le.trans h.fifo_le, stage := .of_idle hi }

/-- The geometry and mode registers are free while idle (10_state.md R24, R31). -/
theorem State.InvParts.writeCfg (c : Cfg) (hn : c.n = s.cfg.n) : State.InvParts { s with cfg := c } := by
  obtain ⟨ctrl, irqEn, n, fs, cc, d⟩ := c
  cases hn
  exact { h with stage := .of_idle hi }

/-- A legal N comes with empty buffers and no result (10_state.md R30). -/
theorem State.InvParts.writeN (v : Word) : (s.writeN v).InvParts := by
  rcases s.writeN_cases v with ⟨_, hw⟩ | ⟨h1, h2, hw⟩
  · rw [hw]; exact h.recordErr _ _
  · rw [hw]
    exact
      { h with
        legalN := ⟨h1, h2⟩
        counts := ⟨Nat.zero_le _, Nat.zero_le _⟩
        peak_res := nofun
        res_full := nofun
        frame_full := nofun
        peakIndexes := nofun
        stage := .of_idle hi }

theorem State.InvParts.writeLut (i : Nat) (v : Word) (hc : i < Build.resultCells s.build) :
    State.InvParts { s with lut := Ram.set s.lut i v } := by
  obtain ⟨hA, hB, hR, hL⟩ := h.memory
  exact { h with memory := ⟨hA, hB, hR, Ram.set_wf v hL hc⟩, stage := .of_idle hi }

theorem State.InvParts.pushA (v : Word) : (s.pushA v).InvParts := by
  obtain ⟨hA, hB, hR, hL⟩ := h.memory
  unfold State.pushA
  split
  · exact h.recordErr _ _
  · rename_i hne
    obtain ⟨hcount, hcell⟩ := h.count_succ h.counts.1 hne
    exact
      { h with
        counts := ⟨hcount, h.counts.2⟩
        peak_res := nofun
        res_full := nofun
        frame_full := fun hf => absurd (State.buffersFull_iff.1 (h.frame_full hf)).1 hne
        peakIndexes := nofun
        memory := ⟨Ram.set_wf _ hA hcell, hB, hR, hL⟩
        stage := .of_idle hi }

theorem State.InvParts.pushB (v : Word) : (s.pushB v).InvParts := by
  obtain ⟨hA, hB, hR, hL⟩ := h.memory
  unfold State.pushB
  split
  · exact h.recordErr _ _
  · rename_i hne
    obtain ⟨hcount, hcell⟩ := h.count_succ h.counts.2 hne
    exact
      { h with
        counts := ⟨h.counts.1, hcount⟩
        peak_res := nofun
        res_full := nofun
        frame_full := fun hf => absurd (State.buffersFull_iff.1 (h.frame_full hf)).2 hne
        peakIndexes := nofun
        memory := ⟨hA, Ram.set_wf _ hB hcell, hR, hL⟩
        stage := .of_idle hi }

end

theorem State.InvParts.accepted {i : Instr} {t : State} (ha : Accepted i s t) : t.InvParts := by
  cases i with
  | nop => cases ha; exact h
  | corrX => obtain ⟨_, hf, rfl⟩ := ha; exact h.startCorr hf _
  | corrC => obtain ⟨_, hf, rfl⟩ := ha; exact h.startCorr hf _
  | peak => obtain ⟨_, hr, rfl⟩ := ha; exact h.startPeak hr
  | angle => obtain ⟨_, hp, hg, rfl⟩ := ha; exact h.startAngle hg (PeakRegs.selected_le (h.peakIndexes hp) _)
  | angleI imm => obtain ⟨_, hi, hg, rfl⟩ := ha; exact h.startAngle hg (h.immediate_le hi)
  | run => obtain ⟨_, hf, hg, rfl⟩ := ha; exact h.startRun hf hg
  | clrbuf => obtain ⟨hb, rfl⟩ := ha; exact h.clearBuffers (State.busy_eq_false.1 hb)
  | ack => obtain ⟨hb, rfl⟩ := ha; exact h.acknowledge (State.busy_eq_false.1 hb)
  | flush => obtain ⟨hb, rfl⟩ := ha; exact h.flushFifo (State.busy_eq_false.1 hb)
  | sreset => obtain ⟨_, rfl⟩ := ha; exact h.softReset

theorem State.InvParts.exec {i : Instr} {t : State} (hx : exec i s = .next t) : t.InvParts := by
  rcases exec_cases hx with ⟨c, rfl⟩ | ha
  · exact h.recordErr _ _
  · exact h.accepted ha

/-- What an accepted write does keeps the invariant; the restricted writes come while idle (20_memory.md R83). -/
theorem State.InvParts.written {v : Word} {g : Target} {t : State} {o : Offset} (hg : targetAt s.build o = some g)
    (hw : Written s v g t) : t.InvParts := by
  cases hw with
  | illegal c => exact h.recordErr c v
  | command i t _ hx => exact h.exec hx
  | err => exact h.outside _ _ _
  | irqEn => exact { h with stage := { h.stage with } }
  | streamIn => exact h.streamIn v
  | ctrl hb => exact h.writeCfg (State.busy_eq_false.1 hb) _ rfl
  | cfgN hb => exact h.writeN (State.busy_eq_false.1 hb) v
  | cfgFs hb => exact h.writeCfg (State.busy_eq_false.1 hb) _ rfl
  | cfgC hb => exact h.writeCfg (State.busy_eq_false.1 hb) _ rfl
  | cfgD hb => exact h.writeCfg (State.busy_eq_false.1 hb) _ rfl
  | aPush hb => exact h.pushA (State.busy_eq_false.1 hb) v
  | bPush hb => exact h.pushB (State.busy_eq_false.1 hb) v
  | lut i hb => exact h.writeLut (State.busy_eq_false.1 hb) i v (targetAt_mappedAt hg)

/-! The engine's stages. -/

/-- A completed LOAD leaves two full buffers (43_frame_ingest.md R198). -/
theorem State.InvParts.loadWrites_full : s.loadWrites.buffersFull = true := by
  have hn := h.n_limits
  have hc : (BitVec.ofNat 11 s.n).toNat = s.n := (BitVec.toNat_ofNat _ _).trans (Nat.mod_eq_of_lt (by omega))
  exact State.buffersFull_iff.2 ⟨hc, hc⟩

theorem State.InvParts.loadDone : (s.loadWrites.setStage .idle).InvParts := by
  have hn := h.n_limits
  have hfull := h.loadWrites_full
  obtain ⟨hA, hB, hR, hL⟩ := h.memory
  obtain ⟨hfa, hfb⟩ := State.buffersFull_iff.1 hfull
  have fits (l : List Byte) : 0 + (l.take s.n).length ≤ Build.sampleCells s.build := by
    rw [Build.sampleCells, List.length_take]
    omega
  exact
    { h with
      counts := ⟨hfa.le, hfb.le⟩
      peak_res := nofun
      res_full := nofun
      frame_full := fun _ => hfull
      fifo_le := (List.drop_sublist _ _).length_le.trans h.fifo_le
      peakIndexes := nofun
      memory := ⟨Ram.setFrom_wf _ hA (fits _), Ram.setFrom_wf _ hB (fits _), hR, hL⟩
      stage := .of_idle rfl }

theorem State.InvParts.completeLoad : s.completeLoad.InvParts := by
  rcases s.completeLoad_cases with hx | ⟨hg, hx⟩ | hx <;> rw [hx]
  · exact h.loadDone
  · exact h.loadDone.startRun h.loadWrites_full hg
  · exact h.loadDone.recordErr _ _

theorem State.InvParts.corrWrites_memory : Memory.wf s.corrWrites := by
  have hn := h.n_limits
  obtain ⟨hA, hB, hR, hL⟩ := h.memory
  refine ⟨hA, hB, Ram.setFrom_wf _ hR ?_, hL⟩
  simp only [State.correlation, List.length_map, List.length_range, State.resultLen, Build.resultCells, Nat.zero_add,
    State.corrWrites_build]
  omega

theorem State.InvParts.completeCorr (hs : s.status.stage = .corr) : s.completeCorr.InvParts := by
  obtain ⟨hf, hr⟩ := h.stage.corr hs
  rcases s.completeCorr_cases with ⟨hc, hx⟩ | ⟨_, hx⟩ <;> rw [hx]
  · exact
      { h with
        peak_res := fun _ => rfl
        res_full := fun _ => hf
        memory := h.corrWrites_memory
        stage :=
          { done_idle := fun hd => absurd ((h.stage.done_idle hd).symm.trans hs) (by decide)
            load := nofun, corr := nofun, peak := fun _ => rfl, angle := nofun
            runUsesPeak := fun _ _ => h.stage.runUsesPeak hc (.inl hs)
            geometryHeld := fun _ => h.stage.geometryHeld (.inr ⟨hc, .inl hs⟩) } }
  · exact
      { h with
        peak_res := fun _ => rfl
        res_full := fun _ => hf
        memory := h.corrWrites_memory
        stage := .of_idle rfl }

/-- The scans' indexes fit the index registers (41_peak.md R142, R143). -/
theorem State.InvParts.peakWrites_maxIdx :
    s.peakWrites.peak.maxIdx.toNat = (scanMax s.resInt (s.resultLen - 1)).2 := by
  have hn := h.n_limits
  have hi := scanMax_index_le s.resInt (s.resultLen - 1)
  have hl : s.resultLen = 2 * s.n - 1 := rfl
  exact (BitVec.toNat_ofNat _ _).trans (Nat.mod_eq_of_lt (by omega))

theorem State.InvParts.peakWrites_absIdx :
    s.peakWrites.peak.absIdx.toNat = (scanAbs s.resInt s.resultLen).2 := by
  have hn := h.n_limits
  have hi := scanAbs_index_le s.resInt s.resultLen
  have hl : s.resultLen = 2 * s.n - 1 := rfl
  exact (BitVec.toNat_ofNat _ _).trans (Nat.mod_eq_of_lt (by omega))

theorem State.InvParts.peakWrites_indexes :
    s.peakWrites.peak.maxIdx.toNat ≤ 2 * s.n - 2 ∧ s.peakWrites.peak.absIdx.toNat ≤ 2 * s.n - 2 := by
  rw [h.peakWrites_maxIdx, h.peakWrites_absIdx]
  exact ⟨scanMax_index_le s.resInt _, scanAbs_index_le s.resInt _⟩

theorem State.InvParts.completePeak (hs : s.status.stage = .peak) : s.completePeak.InvParts := by
  have hr := h.stage.peak hs
  have hi := h.peakWrites_indexes
  rcases s.completePeak_cases with ⟨hc, hx⟩ | ⟨_, hx⟩ <;> rw [hx]
  · have hsrc := h.stage.runUsesPeak hc (.inr hs)
    exact
      { h with
        peak_res := fun _ => hr
        peakIndexes := fun _ => hi
        stage :=
          { done_idle := fun hd => absurd ((h.stage.done_idle hd).symm.trans hs) (by decide)
            load := nofun, corr := nofun, peak := nofun
            angle := fun _ => by
              rw [State.angleIndex_of_peak (by exact hsrc)]
              exact PeakRegs.selected_le hi _
            runUsesPeak := by simp [State.RunUsesPeak]
            geometryHeld := fun _ => h.stage.geometryHeld (.inr ⟨hc, .inr hs⟩) } }
  · exact { h with peak_res := fun _ => hr, peakIndexes := fun _ => hi, stage := .of_idle rfl }

theorem State.InvParts.completeAngle : s.completeAngle.InvParts :=
  { h with stage := .of_idle rfl }

theorem State.InvParts.engineStep : s.engineStep.InvParts := by
  cases hs : s.status.stage with
  | idle => rw [State.engineStep_idle hs]; exact h
  | load => rw [State.engineStep_load hs]; exact h.completeLoad
  | corr => rw [State.engineStep_corr hs]; exact h.completeCorr hs
  | peak => rw [State.engineStep_peak hs]; exact h.completePeak hs
  | angle => rw [State.engineStep_angle hs]; exact h.completeAngle

/-! The step. -/

theorem State.InvParts.moves {g : Agent} {t : State} (hm : Moves s g t) : t.InvParts := by
  cases hm with
  | pass => exact h
  | pinKept rest => exact h.outside _ _ _
  | hardReset a rest level _ _ _ => exact State.initial_invParts _ h.build
  | refused rest c info r _ => exact h.outside _ _ _
  | answered rest r _ => exact h.outside _ _ _
  | written o v rest g _ _ _ hg _ hw =>
    have hu : ((s.programLeft rest).respond (.write false)).InvParts := h.outside _ _ _
    exact hu.written hg hw
  | stream b rest _ _ hl => exact (h.outside _ s.error s.time).appendByte b hl
  | engine => exact h.engineStep
  | loadStart _ _ hd _ hl => exact h.startLoad hd hl
  | discard _ hb _ _ _ => exact h.discardByte (State.busy_eq_false.1 hb)

end

/-- The draw and the used-up turn touch no part of the invariant. -/
theorem State.Inv.atTurn_invParts {s : State} (h : s.Inv) : s.atTurn.InvParts := by
  rw [State.atTurn_eq]
  exact (State.inv_iff_invParts.1 h).outside _ _ _

/-- Settles O54: a step is a move from the state at its turn, and every move keeps the invariant's parts. -/
theorem stepKeepsInv : Obligations.StepKeepsInv := by
  unfold Obligations.StepKeepsInv
  intro s t hs hx
  exact State.inv_iff_invParts.2 (hs.atTurn_invParts.moves (step_moves hx))

/-- Settles O55, first for the default build's reset state. -/
theorem invAfterReset : Obligations.InvAfterReset := by
  unfold Obligations.InvAfterReset
  have inv (b : Config.Build) (e : Env) (hb : b.wellFormed = true) : (State.initial b e).Inv :=
    State.inv_iff_invParts.2 (State.initial_invParts e hb)
  exact ⟨inv _ _ (by decide), fun b e hb => ⟨inv b e hb, nofun, nofun⟩⟩

end Sys2Proof.Machine
end

section
/-! PROOF. O56 and O57: while RES_VALID is 1 the result RAM is the correlation of the full buffers (10_state.md R43), and while
PEAK_VALID is 1 the peak registers are the peak of the result RAM. A move keeps what each flag vouches for or clears the flag,
but for the engine's, which writes it. -/

namespace Sys2Proof.Machine

/-! What the two flags vouch for. -/

/-- All that `State.ResultsCurrent` reads but RES_VALID. -/
def State.resultData (s : State) : Mode × Counts × Word × Nat × Cells 8 × Cells 8 × Cells 32 :=
  (s.status.resMode, s.buf, s.cfg.n, s.env.resets, s.ramA, s.ramB, s.res)

/-- All that `State.PeaksCurrent` reads but PEAK_VALID. -/
def State.peakData (s : State) : PeakRegs × Word × Nat × Cells 32 := (s.peak, s.cfg.n, s.env.resets, s.res)

/-- A valid result after a move is the one before it. -/
def State.KeepsResults (s t : State) : Prop :=
  t.status.resValid = true → s.status.resValid = true ∧ t.resultData = s.resultData

/-- A valid peak after a move is the one before it. -/
def State.KeepsPeaks (s t : State) : Prop :=
  t.status.peakValid = true → s.status.peakValid = true ∧ t.peakData = s.peakData

theorem State.KeepsResults.refl (s : State) : s.KeepsResults s := fun h => ⟨h, rfl⟩
theorem State.KeepsPeaks.refl (s : State) : s.KeepsPeaks s := fun h => ⟨h, rfl⟩

theorem State.ResultsCurrent.kept {s t : State} (h : s.ResultsCurrent) (hk : s.KeepsResults t) : t.ResultsCurrent := by
  intro hv
  obtain ⟨hs, hd⟩ := hk hv
  simp only [State.resultData, Prod.mk.injEq] at hd
  obtain ⟨hm, hb, hn, hr, hA, hB, hR⟩ := hd
  have := h hs
  unfold State.buffersFull State.resultLen State.resInt State.sampleA State.sampleB State.n State.readA State.readB
    State.readRes at *
  rwa [hm, hb, hn, hr, hA, hB, hR]

theorem State.PeaksCurrent.kept {s t : State} (h : s.PeaksCurrent) (hk : s.KeepsPeaks t) : t.PeaksCurrent := by
  intro hv
  obtain ⟨hs, hd⟩ := hk hv
  simp only [State.peakData, Prod.mk.injEq] at hd
  obtain ⟨hp, hn, hr, hR⟩ := hd
  have := h hs
  unfold State.resultLen State.n State.resInt State.readRes at *
  rwa [hp, hn, hr, hR]

/-! What each operation does to them. -/

theorem Accepted.keeps {i : Instr} {s t : State} (ha : Accepted i s t) : s.KeepsResults t ∧ s.KeepsPeaks t := by
  cases i with
  | nop => cases ha; exact ⟨.refl s, .refl s⟩
  | corrX => obtain ⟨_, _, rfl⟩ := ha; exact ⟨nofun, nofun⟩
  | corrC => obtain ⟨_, _, rfl⟩ := ha; exact ⟨nofun, nofun⟩
  | peak => obtain ⟨_, _, rfl⟩ := ha; exact ⟨.refl s, nofun⟩
  | angle => obtain ⟨_, _, _, rfl⟩ := ha; exact ⟨.refl s, .refl s⟩
  | angleI imm => obtain ⟨_, _, _, rfl⟩ := ha; exact ⟨.refl s, .refl s⟩
  | run => obtain ⟨_, _, _, rfl⟩ := ha; exact ⟨nofun, nofun⟩
  | clrbuf => obtain ⟨_, rfl⟩ := ha; exact ⟨nofun, nofun⟩
  | ack => obtain ⟨_, rfl⟩ := ha; exact ⟨.refl s, .refl s⟩
  | flush => obtain ⟨_, rfl⟩ := ha; exact ⟨.refl s, .refl s⟩
  | sreset => obtain ⟨_, rfl⟩ := ha; exact ⟨nofun, nofun⟩

/-- A sample taken and a legal N clear the flags (43_frame_ingest.md R202; 10_state.md R30); no other write but a command's
touches what they vouch for. -/
theorem Written.keeps {s t : State} {v : Word} {g : Target} (hw : Written s v g t) : s.KeepsResults t ∧ s.KeepsPeaks t := by
  cases hw with
  | illegal c => exact ⟨.refl s, .refl s⟩
  | command i t _ hx =>
    rcases exec_cases hx with ⟨c, rfl⟩ | ha
    · exact ⟨.refl s, .refl s⟩
    · exact ha.keeps
  | err => exact ⟨.refl s, .refl s⟩
  | irqEn => exact ⟨.refl s, .refl s⟩
  | streamIn => unfold State.streamIn; split <;> exact ⟨.refl s, .refl s⟩
  | ctrl => exact ⟨.refl s, .refl s⟩
  | cfgN =>
    rcases s.writeN_cases v with ⟨_, hx⟩ | ⟨_, _, hx⟩ <;> rw [hx]
    · exact ⟨.refl s, .refl s⟩
    · exact ⟨nofun, nofun⟩
  | cfgFs => exact ⟨.refl s, .refl s⟩
  | cfgC => exact ⟨.refl s, .refl s⟩
  | cfgD => exact ⟨.refl s, .refl s⟩
  | aPush =>
    unfold State.pushA
    split
    · exact ⟨.refl s, .refl s⟩
    · exact ⟨nofun, nofun⟩
  | bPush =>
    unfold State.pushB
    split
    · exact ⟨.refl s, .refl s⟩
    · exact ⟨nofun, nofun⟩
  | lut i => exact ⟨.refl s, .refl s⟩

/-- Only the engine's step makes a result or a peak valid. -/
theorem Moves.engineStep_or_keeps {u t : State} {g : Agent} (hm : Moves u g t) :
    t = u.engineStep ∨ u.KeepsResults t ∧ u.KeepsPeaks t := by
  cases hm with
  | pass => exact .inr ⟨.refl u, .refl u⟩
  | pinKept rest => exact .inr ⟨.refl u, .refl u⟩
  | hardReset a rest level => exact .inr ⟨nofun, nofun⟩
  | refused rest c info r => exact .inr ⟨.refl u, .refl u⟩
  | answered rest r => exact .inr ⟨.refl u, .refl u⟩
  | written o v rest g _ _ _ _ _ hw => exact .inr hw.keeps
  | stream b rest => exact .inr ⟨.refl u, .refl u⟩
  | engine => exact .inl rfl
  | loadStart => exact .inr ⟨.refl u, .refl u⟩
  | discard => exact .inr ⟨.refl u, .refl u⟩

theorem State.completeLoad_keeps (s : State) : s.KeepsResults s.completeLoad ∧ s.KeepsPeaks s.completeLoad := by
  rcases s.completeLoad_cases with hx | ⟨_, hx⟩ | hx <;> rw [hx] <;> exact ⟨nofun, nofun⟩

/-! The CORR stage. -/

theorem abs_runningSum_le {f : Nat → Int} {b : Int} (hf : ∀ j, |f j| ≤ b) (n : Nat) : |runningSum f n| ≤ n * b := by
  induction n with
  | zero => simp [runningSum]
  | succ n ih =>
    calc |runningSum f n + f n| ≤ |runningSum f n| + |f n| := abs_add_le _ _
      _ ≤ n * b + b := add_le_add ih (hf n)
      _ = (n + 1 : Nat) * b := by push_cast; ring

/-- A sample is an int8 (00_scope.md R12). -/
theorem abs_byte_toInt_le (x : Byte) : |x.toInt| ≤ 128 := by
  have h1 := x.le_toInt
  have h2 := x.toInt_lt
  exact abs_le.2 ⟨by omega, by omega⟩

/-- A product of two samples is at most 2^14 in magnitude (40_correlation.md R127). -/
theorem State.abs_corrTerm_le (s : State) (m : Mode) (n i j : Nat) : |corrTerm m s.sampleA s.sampleB n i j| ≤ 16384 := by
  unfold corrTerm
  dsimp only
  split
  · rw [abs_mul]
    calc |s.sampleA j| * |s.sampleB _| ≤ 128 * 128 :=
          mul_le_mul (abs_byte_toInt_le _) (abs_byte_toInt_le _) (abs_nonneg _) (by decide)
      _ = 16384 := by decide
  · decide

/-- No result overflows an int32 (40_correlation.md R127). -/
theorem State.toInt_ofInt_correlate (s : State) (m : Mode) {n : Nat} (hn : n ≤ 1024) (i : Nat) :
    (BitVec.ofInt 32 (correlate m s.sampleA s.sampleB n i)).toInt = correlate m s.sampleA s.sampleB n i := by
  have h : |correlate m s.sampleA s.sampleB n i| ≤ n * 16384 := abs_runningSum_le (s.abs_corrTerm_le m n i) n
  obtain ⟨h1, h2⟩ := abs_le.1 h
  exact BitVec.toInt_ofInt_eq_self (by decide) (by omega) (by omega)

theorem State.InvParts.completeCorr_resultsCurrent {s : State} (h : s.InvParts) (hs : s.status.stage = .corr) :
    s.completeCorr.ResultsCurrent := by
  have hn := h.n_limits
  have hw : s.corrWrites.ResultsCurrent := fun _ => by
    refine ⟨(h.stage.corr hs).1, fun i hi => ?_⟩
    rw [State.resInt, State.corrWrites_readRes, if_pos (show i < s.resultLen from hi)]
    exact s.toInt_ofInt_correlate _ (by omega) i
  rcases s.completeCorr_cases with ⟨_, hx⟩ | ⟨_, hx⟩ <;> rw [hx] <;> exact hw

/-- A CORR stage runs without a valid peak (40_correlation.md R122). -/
theorem State.InvParts.completeCorr_keepsPeaks {s : State} (h : s.InvParts) (hs : s.status.stage = .corr) :
    s.KeepsPeaks s.completeCorr := by
  have hp (hv : s.status.peakValid = true) : False := by
    simpa [(h.stage.corr hs).2] using h.peak_res hv
  rcases s.completeCorr_cases with ⟨_, hx⟩ | ⟨_, hx⟩ <;> rw [hx] <;> exact fun hv => (hp hv).elim

/-! The PEAK stage. -/

theorem State.completePeak_keepsResults (s : State) : s.KeepsResults s.completePeak := by
  rcases s.completePeak_cases with ⟨_, hx⟩ | ⟨_, hx⟩ <;> rw [hx] <;> exact .refl s

/-- The signed scan's value is a cell's (41_peak.md R142). -/
theorem scanMax_value (f : Nat → Int) (k : Nat) : f (scanMax f k).2 = (scanMax f k).1 := by
  induction k with
  | zero => rfl
  | succ k ih =>
    rw [scanMax]
    split
    · rfl
    · exact ih

/-- A bound on every magnitude bounds the scan's value (41_peak.md R143). -/
theorem scanAbs_value_le {f : Nat → Int} {b : Nat} (hf : ∀ i, (f i).natAbs ≤ b) (k : Nat) : (scanAbs f k).1 ≤ b := by
  induction k with
  | zero => exact Nat.zero_le b
  | succ k ih =>
    rw [scanAbs]
    split
    · exact hf k
    · exact ih

theorem State.peakWrites_maxVal (s : State) :
    s.peakWrites.peak.maxVal.toInt = (scanMax s.resInt (s.resultLen - 1)).1 := by
  change (BitVec.ofInt 32 (scanMax s.resInt (s.resultLen - 1)).1).toInt = _
  rw [← scanMax_value, State.resInt, BitVec.ofInt_toInt]

/-- The greatest magnitude of an int32, 2^31, fits PEAK_ABS_VAL (41_peak.md R143). -/
theorem State.peakWrites_absVal (s : State) : s.peakWrites.peak.absVal.toNat = (scanAbs s.resInt s.resultLen).1 := by
  have hc (i : Nat) : (s.resInt i).natAbs ≤ 2 ^ 31 := by
    have h1 := (s.readRes i).le_toInt
    have h2 := (s.readRes i).toInt_lt
    rw [State.resInt]
    omega
  have hv := scanAbs_value_le hc s.resultLen
  exact (BitVec.toNat_ofNat _ _).trans (Nat.mod_eq_of_lt (by omega))

theorem State.InvParts.completePeak_peaksCurrent {s : State} (h : s.InvParts) : s.completePeak.PeaksCurrent := by
  have hw : s.peakWrites.PeaksCurrent := fun _ =>
    ⟨s.peakWrites_maxVal, h.peakWrites_maxIdx, s.peakWrites_absVal, h.peakWrites_absIdx⟩
  rcases s.completePeak_cases with ⟨_, hx⟩ | ⟨_, hx⟩ <;> rw [hx] <;> exact hw

/-! The engine and the step. -/

theorem State.ResultsCurrent.engineStep {s : State} (h : s.ResultsCurrent) (hi : s.InvParts) :
    s.engineStep.ResultsCurrent := by
  cases hs : s.status.stage with
  | idle => rw [State.engineStep_idle hs]; exact h
  | load => rw [State.engineStep_load hs]; exact h.kept s.completeLoad_keeps.1
  | corr => rw [State.engineStep_corr hs]; exact hi.completeCorr_resultsCurrent hs
  | peak => rw [State.engineStep_peak hs]; exact h.kept s.completePeak_keepsResults
  | angle => rw [State.engineStep_angle hs]; exact h.kept (.refl s)

theorem State.PeaksCurrent.engineStep {s : State} (h : s.PeaksCurrent) (hi : s.InvParts) :
    s.engineStep.PeaksCurrent := by
  cases hs : s.status.stage with
  | idle => rw [State.engineStep_idle hs]; exact h
  | load => rw [State.engineStep_load hs]; exact h.kept s.completeLoad_keeps.2
  | corr => rw [State.engineStep_corr hs]; exact h.kept (hi.completeCorr_keepsPeaks hs)
  | peak => rw [State.engineStep_peak hs]; exact hi.completePeak_peaksCurrent
  | angle => rw [State.engineStep_angle hs]; exact h.kept (.refl s)

/-- The turn's bookkeeping touches nothing the flags vouch for. -/
theorem State.atTurn_keeps (s : State) : s.KeepsResults s.atTurn ∧ s.KeepsPeaks s.atTurn := by
  rw [State.atTurn_eq]
  exact ⟨.refl s, .refl s⟩

/-- Settles O56: the engine's CORR stage writes the correlation, every other move keeps the results or clears RES_VALID. -/
theorem stepKeepsResultsCurrent : Obligations.StepKeepsResultsCurrent := by
  unfold Obligations.StepKeepsResultsCurrent
  intro s t hi hr hx
  have hu := hr.kept s.atTurn_keeps.1
  rcases (step_moves hx).engineStep_or_keeps with rfl | hk
  · exact hu.engineStep hi.atTurn_invParts
  · exact hu.kept hk.1

/-- Settles O57: the engine's PEAK stage writes the peak, every other move keeps it or clears PEAK_VALID. -/
theorem stepKeepsPeaksCurrent : Obligations.StepKeepsPeaksCurrent := by
  unfold Obligations.StepKeepsPeaksCurrent
  intro s t hi hp hx
  have hu := hp.kept s.atTurn_keeps.2
  rcases (step_moves hx).engineStep_or_keeps with rfl | hk
  · exact hu.engineStep hi.atTurn_invParts
  · exact hu.kept hk.2

end Sys2Proof.Machine
end

section
/-! PROOF. O58: who writes the sample and result RAMs (43_frame_ingest.md R204; 10_state.md R41, R42). -/

namespace Sys2Proof.Machine

/-- Each of A, B and RES reads as before, unless its condition for being written holds. -/
def State.KeepsCells (s t : State) (writesA writesB writesRes : Prop) : Prop :=
  (¬writesA → ∀ j, t.readA j = s.readA j) ∧ (¬writesB → ∀ j, t.readB j = s.readB j) ∧
    (¬writesRes → ∀ i, t.readRes i = s.readRes i)

/-- The host's next action is a full-word write to `o`. -/
def State.WritesNext (s : State) (o : Offset) : Prop := ∃ v rest, s.env.hostProgram = .write o v 0b1111 :: rest

theorem State.KeepsCells.refl (s : State) (a b r : Prop) : s.KeepsCells s a b r :=
  ⟨fun _ _ => rfl, fun _ _ => rfl, fun _ _ => rfl⟩

theorem State.KeepsCells.mono {s t : State} {a b r a' b' r' : Prop} (h : s.KeepsCells t a b r) (ha : a → a') (hb : b → b')
    (hr : r → r') : s.KeepsCells t a' b' r' :=
  ⟨fun hn => h.1 (mt ha hn), fun hn => h.2.1 (mt hb hn), fun hn => h.2.2 (mt hr hn)⟩

/-- No command writes a sample or a result. -/
theorem Accepted.keepsCells {i : Instr} {s t : State} (ha : Accepted i s t) : s.KeepsCells t False False False := by
  cases i with
  | nop => cases ha; exact .refl s _ _ _
  | corrX => obtain ⟨_, _, rfl⟩ := ha; exact .refl s _ _ _
  | corrC => obtain ⟨_, _, rfl⟩ := ha; exact .refl s _ _ _
  | peak => obtain ⟨_, _, rfl⟩ := ha; exact .refl s _ _ _
  | angle => obtain ⟨_, _, _, rfl⟩ := ha; exact .refl s _ _ _
  | angleI imm => obtain ⟨_, _, _, rfl⟩ := ha; exact .refl s _ _ _
  | run => obtain ⟨_, _, _, rfl⟩ := ha; exact .refl s _ _ _
  | clrbuf => obtain ⟨_, rfl⟩ := ha; exact .refl s _ _ _
  | ack => obtain ⟨_, rfl⟩ := ha; exact .refl s _ _ _
  | flush => obtain ⟨_, rfl⟩ := ha; exact .refl s _ _ _
  | sreset => obtain ⟨_, rfl⟩ := ha; exact .refl s _ _ _

/-- A write to A_PUSH writes A at most, one to B_PUSH writes B at most (10_state.md R33), any other write neither. -/
theorem Written.keepsCells {s t : State} {v : Word} {g : Target} (hw : Written s v g t) :
    s.KeepsCells t (g = .reg .aPush) (g = .reg .bPush) False := by
  cases hw with
  | illegal c => exact .refl s _ _ _
  | command i t _ hx =>
    rcases exec_cases hx with ⟨c, rfl⟩ | ha
    · exact .refl s _ _ _
    · exact ha.keepsCells.mono False.elim False.elim id
  | err => exact .refl s _ _ _
  | irqEn => exact .refl s _ _ _
  | streamIn => unfold State.streamIn; split <;> exact .refl s _ _ _
  | ctrl => exact .refl s _ _ _
  | cfgN => rcases s.writeN_cases v with ⟨_, hx⟩ | ⟨_, _, hx⟩ <;> rw [hx] <;> exact .refl s _ _ _
  | cfgFs => exact .refl s _ _ _
  | cfgC => exact .refl s _ _ _
  | cfgD => exact .refl s _ _ _
  | aPush =>
    unfold State.pushA
    split
    · exact .refl s _ _ _
    · exact ⟨fun hn => absurd rfl hn, fun _ _ => rfl, fun _ _ => rfl⟩
  | bPush =>
    unfold State.pushB
    split
    · exact .refl s _ _ _
    · exact ⟨fun _ _ => rfl, fun hn => absurd rfl hn, fun _ _ => rfl⟩
  | lut i => exact .refl s _ _ _

/-- The engine writes A and B in LOAD and RES in CORR. -/
theorem State.engineStep_keepsCells (s : State) :
    s.KeepsCells s.engineStep (s.status.stage = .load) (s.status.stage = .load) (s.status.stage = .corr) := by
  cases hs : s.status.stage with
  | idle => rw [State.engineStep_idle hs]; exact .refl s _ _ _
  | load =>
    rw [State.engineStep_load hs]
    refine ⟨fun hn => absurd rfl hn, fun hn => absurd rfl hn, fun _ i => ?_⟩
    rcases s.completeLoad_cases with hx | ⟨_, hx⟩ | hx <;> rw [hx] <;> rfl
  | corr =>
    rw [State.engineStep_corr hs]
    rcases s.completeCorr_cases with ⟨_, hx⟩ | ⟨_, hx⟩ <;> rw [hx] <;>
      exact ⟨fun _ _ => rfl, fun _ _ => rfl, fun hn => absurd rfl hn⟩
  | peak =>
    rw [State.engineStep_peak hs]
    rcases s.completePeak_cases with ⟨_, hx⟩ | ⟨_, hx⟩ <;> rw [hx] <;> exact .refl s _ _ _
  | angle => rw [State.engineStep_angle hs]; exact .refl s _ _ _

/-- A register is mapped at its own offset only (20_memory.md R72). -/
theorem targetAt_eq_reg {b : Config.Build} {o : Offset} {r : Reg} (h : targetAt b o = some (.reg r)) :
    o = BitVec.ofNat 15 r.offset := by
  have hr : r.offset = o.toNat := targetAt_mappedAt h
  rw [hr, BitVec.ofNat_toNat, BitVec.setWidth_eq]

theorem Moves.keepsCells {u t : State} {g : Agent} (hm : Moves u g t)
    (hr : g = .host → ∀ a rest, u.env.hostProgram = a :: rest → a ≠ .assertReset ∧ a ≠ .releaseReset) :
    u.KeepsCells t (g = .engine ∧ u.status.stage = .load ∨ g = .host ∧ u.WritesNext 0x03C)
      (g = .engine ∧ u.status.stage = .load ∨ g = .host ∧ u.WritesNext 0x040) (g = .engine ∧ u.status.stage = .corr) := by
  cases hm with
  | pass => exact .refl u _ _ _
  | pinKept rest => exact .refl u _ _ _
  | hardReset a rest level hp ha _ =>
    obtain ⟨h1, h2⟩ := hr rfl a rest hp
    rcases ha with ⟨ha, _⟩ | ⟨ha, _⟩
    · exact absurd ha h1
    · exact absurd ha h2
  | refused rest c info r => exact .refl u _ _ _
  | answered rest r => exact .refl u _ _ _
  | written o v rest g _ _ hp hg _ hw =>
    have next {p : Reg} (hgp : g = .reg p) : u.WritesNext (BitVec.ofNat 15 p.offset) := by
      rw [hgp] at hg
      exact ⟨v, rest, by rw [hp, targetAt_eq_reg hg]⟩
    exact hw.keepsCells.mono (fun h => .inr ⟨rfl, next h⟩) (fun h => .inr ⟨rfl, next h⟩) False.elim
  | stream b rest => exact .refl u _ _ _
  | engine => exact u.engineStep_keepsCells.mono (fun h => .inl ⟨rfl, h⟩) (fun h => .inl ⟨rfl, h⟩) (⟨rfl, ·⟩)
  | loadStart => exact .refl u _ _ _
  | discard => exact .refl u _ _ _

/-- Settles O58: a step is a move from the state at its turn, which has the same cells, stage and host's sequence. -/
theorem whoWritesTheRams : Obligations.WhoWritesTheRams := by
  unfold Obligations.WhoWritesTheRams
  intro s t hx hr
  have hk := (step_moves hx).keepsCells (by simpa using hr)
  rw [State.atTurn_eq] at hk
  obtain ⟨hA, hB, hR⟩ := hk
  refine ⟨fun he hp => hA ?_, fun he hp => hB ?_, hR⟩
  · rintro (h | ⟨h, v, rest, hw⟩)
    · exact he h
    · exact hp h v rest hw
  · rintro (h | ⟨h, v, rest, hw⟩)
    · exact he h
    · exact hp h v rest hw

end Sys2Proof.Machine
end

section
/-! PROOF. O44 and O45: writes of the read-write registers and of LUT cells (10_state.md R21, R24, R29 to R31; 20_memory.md R80,
R83). -/

namespace Sys2Proof.Machine

/-! Words. -/

/-- A field of `k` bits reads back as the word's low `k` bits (10_state.md R21: reserved bits read 0). -/
theorem setWidth_truncate_eq_and (v : Word) {k : Nat} (hk : k ≤ 32) :
    (v.truncate k).setWidth 32 = v &&& BitVec.ofNat 32 (2 ^ k - 1) := by
  apply BitVec.eq_of_toNat_eq
  have h2 : 2 ^ k ≤ 2 ^ 32 := Nat.pow_le_pow_right (by decide) hk
  have hv := v.isLt
  rw [BitVec.toNat_and, BitVec.toNat_ofNat, Nat.mod_eq_of_lt (by have := Nat.two_pow_pos k; omega),
    Nat.and_two_pow_sub_one_eq_mod, BitVec.toNat_setWidth, BitVec.toNat_setWidth,
    Nat.mod_eq_of_lt ((Nat.mod_le _ _).trans_lt hv)]

/-! The LUT window. -/

/-- Each LUT cell stands at its offset (20_memory.md R72). -/
theorem targetAt_lut {b : Config.Build} {i : Nat} (hb : b.wellFormed = true) (hi : i < 2 * b.nMax - 1) :
    (BitVec.ofNat 15 (0x6000 + 4 * i)).toNat % 4 = 0 ∧
      targetAt b (BitVec.ofNat 15 (0x6000 + 4 * i)) = some (.lut i) := by
  have hl := wellFormed_limits hb
  have ho : (BitVec.ofNat 15 (0x6000 + 4 * i)).toNat = 0x6000 + 4 * i :=
    (BitVec.toNat_ofNat _ _).trans (Nat.mod_eq_of_lt (by omega))
  refine ⟨by omega, ?_⟩
  have hc : cellAt 0x6000 (Build.resultCells b) (0x6000 + 4 * i) = some i := by
    unfold cellAt Build.resultCells
    rw [Nat.add_sub_cancel_left, Nat.mul_div_cancel_left _ (by decide), if_pos hi]
  unfold targetAt
  rw [ho]
  dsimp only
  rw [if_neg (by omega), if_neg (by omega), if_neg (by omega), if_neg (by omega), if_neg (by omega), hc]
  rfl

/-- The LUT is free while idle (20_memory.md R80, R83). -/
theorem busCheck_lut {s : State} {i : Nat} (hi : s.busy = false) {o : Offset} (ho : o.toNat % 4 = 0)
    (ht : targetAt s.build o = some (.lut i)) {k : AccessKind} (hk : k.fullWord = true) :
    busCheck s o k = .ok (.lut i) := by
  have ha : (Target.lut i).allows k = true := by cases k <;> rfl
  unfold busCheck
  rw [if_neg (not_not.2 ho), hk, ht]
  simp [ha, hi]

/-- What an accepted write of a LUT cell does (20_memory.md R80); tied to the bus by `State.lut_write`. -/
def State.withLut (i : Nat) (v : Word) (s : State) : State := { s with lut := Ram.set s.lut i v }

theorem State.readLut_withLut_same (s : State) (i : Nat) (v : Word) : (s.withLut i v).readLut i = v := by
  simp [State.readLut, State.withLut, Ram.find_set_same]

theorem State.readLut_withLut_other (s : State) {i j : Nat} (v : Word) (h : j ≠ i) :
    (s.withLut i v).readLut j = s.readLut j := by
  simp [State.readLut, State.withLut, Ram.find_set_other _ _ h]

theorem State.lut_write {s : State} (hs : s.busy = false) (v : Word) {i : Nat} (hb : s.build.wellFormed = true)
    (hi : i < 2 * s.build.nMax - 1) :
    s.busWrite (BitVec.ofNat 15 (0x6000 + 4 * i)) v 0b1111 =
      .next ((s.respond (.write false)).withLut i v) := by
  obtain ⟨ho, ht⟩ := targetAt_lut hb hi
  rw [State.busWrite, busCheck_lut hs ho ht rfl]
  rfl

theorem State.lut_read {s : State} (hs : s.busy = false) {i : Nat} (hb : s.build.wellFormed = true)
    (hi : i < 2 * s.build.nMax - 1) :
    s.busRead (BitVec.ofNat 15 (0x6000 + 4 * i)) = s.respond (.read false (s.readLut i)) := by
  obtain ⟨ho, ht⟩ := targetAt_lut hb hi
  rw [State.busRead, busCheck_lut hs ho ht rfl]
  rfl

/-! Registers. -/

/-- BUSY refuses no read of a read-write register (20_memory.md R83). -/
theorem Reg.rw_not_readRestricted {r : Reg} (h : r.kind = .rw) : (Target.reg r).readRestricted = false := by
  revert h
  cases r <;> decide

/-- A write that is not refused does the register's write rule, and the register then reads as that rule leaves it. -/
theorem State.writes_and_reads_back {s t : State} {r : Reg} {v w : Word} (hr : r.kind = .rw)
    (hb : s.busy = false ∨ (Target.reg r).writeRestricted = false)
    (hw : (s.respond (.write false)).writeReg v r = .next t) (hrd : t.readReg r = w) :
    s.busWrite (BitVec.ofNat 15 r.offset) v 0b1111 = .next t ∧
      (t.busRead (BitVec.ofNat 15 r.offset)).env.resp = .read false w := by
  rw [s.busWrite_reg r v (by rw [hr]; decide) hb, t.busRead_reg r (by rw [hr]; decide) (.inr (Reg.rw_not_readRestricted hr)), hrd]
  exact ⟨hw, rfl⟩

/-- A write that BUSY refuses (20_memory.md R74, R83). -/
theorem State.busWrite_reg_refused {s : State} {r : Reg} (v : Word) (hk : r.kind ≠ .ro) (hb : s.busy = true)
    (hr : (Target.reg r).writeRestricted = true) :
    s.busWrite (BitVec.ofNat 15 r.offset) v 0b1111 =
      .next ((s.recordErr .busyAccess (offsetInfo (BitVec.ofNat 15 r.offset))).respond (.write true)) := by
  unfold State.busWrite
  rw [busCheck_reg]
  simp [AccessKind.fullWord, Target.allows, Target.writable, Target.restricted, hk, hb, hr]

/-- Settles O44, register by register, then the LUT cell. -/
theorem writtenRegistersReadBack : Obligations.WrittenRegistersReadBack := by
  unfold Obligations.WrittenRegistersReadBack
  refine ⟨fun s v => ?_, fun s v hs => ?_⟩
  · obtain ⟨hw, hr⟩ := State.writes_and_reads_back (s := s) (r := .irqEn) (v := v) rfl (.inr rfl) rfl
      (setWidth_truncate_eq_and v (by decide))
    exact ⟨_, hw, hr, rfl⟩
  · refine ⟨State.writes_and_reads_back (r := .ctrl) rfl (.inl hs) rfl (setWidth_truncate_eq_and v (by decide)),
      State.writes_and_reads_back (r := .cfgFs) rfl (.inl hs) rfl rfl,
      State.writes_and_reads_back (r := .cfgC) rfl (.inl hs) rfl rfl,
      State.writes_and_reads_back (r := .cfgD) rfl (.inl hs) rfl rfl, fun i hb hi => ?_⟩
    refine ⟨_, State.lut_write hs v hb hi, ?_, fun j hj => ?_, rfl⟩
    · rw [State.lut_read (s := (s.respond (.write false)).withLut i v) hs hb hi, State.respond_resp,
        State.readLut_withLut_same]
    · exact State.readLut_withLut_other _ v hj

/-- Settles O45: BUSY refuses the write; while idle it is `State.writeN`, answered OK. -/
theorem cfgNWrite : Obligations.CfgNWrite := by
  unfold Obligations.CfgNWrite
  intro s v
  have idle (hb : s.busy = false) : s.busWrite 0x024 v 0b1111 = .next ((s.respond (.write false)).writeN v) :=
    s.busWrite_reg .cfgN v (by decide) (.inl hb)
  refine ⟨fun hb => ⟨_, State.busWrite_reg_refused (r := .cfgN) v (by decide) hb rfl, rfl⟩, fun hb hv => ?_,
    fun hb h1 h2 => ?_⟩
  · rw [idle hb]
    rcases (s.respond (.write false)).writeN_cases v with ⟨_, hx⟩ | ⟨h1, h2, _⟩
    · rw [hx]; rfl
    · exact absurd hv (by rw [State.respond_build] at h2; omega)
  · rw [idle hb]
    rcases (s.respond (.write false)).writeN_cases v with ⟨hv, _⟩ | ⟨_, _, hx⟩
    · exact absurd hv (by rw [State.respond_build]; omega)
    · rw [hx]; rfl

end Sys2Proof.Machine
end

section
/-! PROOF. O47 and O49: the fields of STATUS (10_state.md R25), and what hardware reset leaves (10_state.md R49;
70_reset_and_hazards.md R260, R261). -/

namespace Sys2Proof.Machine

/-! The word of STATUS. -/

/-- Bits 12 to 0 of STATUS, bit 0 first (10_state.md R25). -/
def State.statusBits (s : State) : List Bool :=
  let g := s.status.stage.code
  [s.busy, g.getLsbD 0, g.getLsbD 1, g.getLsbD 2, s.status.done, s.status.resValid, s.status.peakValid, s.status.angleValid,
    s.status.sat, s.status.frameRdy, s.errAny, s.irq, s.status.resMode.code.getLsbD 0]

theorem State.statusWord_getLsbD (s : State) {k : Nat} (hk : k < 13) :
    s.statusWord.getLsbD k = s.statusBits.getD k false := by
  unfold State.statusWord
  iterate 11 rw [BitVec.getLsbD_append]
  interval_cases k <;> simp [State.statusBits]

/-- STAGE is bits 3:1 (10_state.md R25). -/
theorem State.statusWord_stage (s : State) : s.statusWord.extractLsb' 1 3 = s.status.stage.code := by
  unfold State.statusWord
  rw [BitVec.extractLsb'_append_eq_of_le (by decide), BitVec.extractLsb'_append_eq_of_add_le (by decide),
    BitVec.extractLsb'_eq_self]

/-- Bits 31:13 are reserved (10_state.md R25). -/
theorem State.statusWord_reserved (s : State) : s.statusWord.extractLsb' 13 19 = 0 := by
  unfold State.statusWord
  iterate 11 rw [BitVec.extractLsb'_append_eq_of_le (by decide)]
  rfl

theorem State.busy_eq_decide (s : State) : s.busy = decide (s.status.stage ≠ .idle) :=
  Bool.eq_iff_iff.2 (by simp [State.busy])

theorem State.errAny_eq_decide (s : State) : s.errAny = decide (s.error.err ≠ 0) :=
  Bool.eq_iff_iff.2 (by simp [State.errAny])

/-- Settles O47: STATUS is its fields put together, each at its bit. -/
theorem statusWordFields : Obligations.StatusWordFields := by
  unfold Obligations.StatusWordFields
  intro s
  have bit {k : Nat} (hk : k < 13) := s.statusWord_getLsbD hk
  refine ⟨(bit (by decide)).trans s.busy_eq_decide, ?_, bit (by decide), bit (by decide), bit (by decide), bit (by decide),
    bit (by decide), bit (by decide), (bit (by decide)).trans s.errAny_eq_decide, bit (by decide), ?_, s.statusWord_reserved⟩
  · rw [s.statusWord_stage]
    cases s.status.stage <;> rfl
  · refine (bit (by decide)).trans ?_
    change s.status.resMode.code.getLsbD 0 = decide (s.status.resMode = .conv)
    cases s.status.resMode <;> rfl

/-! Reset. -/

/-- Driving `rst_n` to the level it does not have is a hardware reset (notes/assumptions/11.md). -/
theorem State.driveReset_of_ne {s : State} {level : Bool} (h : s.env.rstN ≠ level) : s.driveReset level = s.hardReset level :=
  if_neg h

/-- Settles O49: the reset state is one state of the build, whatever came before; both edges of the pin give it. -/
theorem hardwareResetState : Obligations.HardwareResetState := by
  unfold Obligations.HardwareResetState
  refine ⟨fun s level hb => ?_, fun s rest ht => ⟨fun hn hp => ?_, fun hn hp => ?_⟩, by decide, by decide⟩
  · have hstatus : (s.hardReset level).statusWord = State.reset.statusWord := rfl
    refine ⟨rfl, rfl, hstatus.trans (by decide), rfl, rfl, rfl, rfl, rfl, rfl, rfl, rfl, State.initial_n _ hb, rfl, rfl, rfl,
      ?_, fun j => ⟨rfl, rfl, rfl, rfl⟩⟩
    simp only [List.forall_mem_cons]
    exact ⟨rfl, rfl, rfl, rfl, rfl, rfl, rfl, rfl, rfl, rfl, rfl, rfl, rfl, rfl, rfl, rfl, rfl, rfl, nofun⟩
  · rw [step_host_cons ht hp, State.hostAct, State.driveReset_of_ne (by simp [hn])]
  · rw [step_host_cons ht hp, State.hostAct, State.driveReset_of_ne (by simp [hn])]

end Sys2Proof.Machine
end

section
/-! PROOF. O40 to O43: the address map, the refused accesses and the words reads answer (20_memory.md R72 to R83; 10_state.md R22
to R40). -/

namespace Sys2Proof.Machine

/-! The address map. -/

/-- Byte address `a` lies in cell `i` of a window that starts at `base`, ends before `limit` and has `size` cells
(20_memory.md R72). -/
abbrev InCell (base limit size a i : Nat) : Prop := base ≤ a ∧ a < limit ∧ i < size ∧ (a - base) / 4 = i

/-- Where a target stands in the address map (20_memory.md R72); tied to `targetAt` by `targetAt_eq_some_iff`. -/
def Target.StandsAt (b : Config.Build) (a : Nat) : Target → Prop
  | .reg r => r.offset = a
  | .sampleA i => InCell 0x1000 0x2000 (Build.sampleCells b) a i
  | .sampleB i => InCell 0x2000 0x3000 (Build.sampleCells b) a i
  | .result i => InCell 0x4000 0x6000 (Build.resultCells b) a i
  | .lut i => InCell 0x6000 0x8000 (Build.resultCells b) a i

theorem Reg.offset_le (r : Reg) : r.offset ≤ 0x084 := by
  cases r <;> decide

theorem Target.StandsAt.reg_le {b : Config.Build} {a : Nat} {r : Reg} (h : (Target.reg r).StandsAt b a) : a ≤ 0x084 :=
  h ▸ r.offset_le

theorem cellAt_eq_some_iff {base size a i : Nat} : cellAt base size a = some i ↔ i < size ∧ (a - base) / 4 = i := by
  unfold cellAt
  dsimp only
  split <;> simp only [Option.some.injEq, reduceCtorEq, false_iff] <;> omega

/-- What an offset names stands there. -/
theorem targetAt_standsAt {b : Config.Build} {o : Offset} {t : Target} (h : targetAt b o = some t) : t.StandsAt b o.toNat := by
  have cell {base size a : Nat} {f : Nat → Target} (h : (cellAt base size a).map f = some t) :
      ∃ i, (i < size ∧ (a - base) / 4 = i) ∧ f i = t := by
    obtain ⟨i, hi, hf⟩ := Option.map_eq_some_iff.1 h
    exact ⟨i, cellAt_eq_some_iff.1 hi, hf⟩
  have ho := o.isLt
  unfold targetAt at h
  dsimp only at h
  split at h
  · obtain ⟨r, hr, rfl⟩ := Option.map_eq_some_iff.1 h
    exact regAt_offset hr
  split at h
  · obtain ⟨i, hi, rfl⟩ := cell h
    exact ⟨by omega, by omega, hi⟩
  split at h
  · obtain ⟨i, hi, rfl⟩ := cell h
    exact ⟨by omega, by omega, hi⟩
  split at h
  · cases h
  split at h
  · obtain ⟨i, hi, rfl⟩ := cell h
    exact ⟨by omega, by omega, hi⟩
  · obtain ⟨i, hi, rfl⟩ := cell h
    exact ⟨by omega, by omega, hi⟩

/-- The address map, whatever the build (20_memory.md R72). -/
theorem targetAt_eq_some_iff {b : Config.Build} {o : Offset} {t : Target} :
    targetAt b o = some t ↔ t.StandsAt b o.toNat := by
  refine ⟨targetAt_standsAt, fun h => ?_⟩
  cases t with
  | reg r =>
    rw [← targetAt_reg b r, show r.offset = o.toNat from h, BitVec.ofNat_toNat, BitVec.setWidth_eq]
  | sampleA i =>
    obtain ⟨hl, hu, hi⟩ := h
    unfold targetAt
    dsimp only
    rw [if_neg (by omega), if_pos hu, cellAt_eq_some_iff.2 hi]
    rfl
  | sampleB i =>
    obtain ⟨hl, hu, hi⟩ := h
    unfold targetAt
    dsimp only
    rw [if_neg (by omega), if_neg (by omega), if_pos hu, cellAt_eq_some_iff.2 hi]
    rfl
  | result i =>
    obtain ⟨hl, hu, hi⟩ := h
    unfold targetAt
    dsimp only
    rw [if_neg (by omega), if_neg (by omega), if_neg (by omega), if_neg (by omega), if_pos hu, cellAt_eq_some_iff.2 hi]
    rfl
  | lut i =>
    obtain ⟨hl, _, hi⟩ := h
    unfold targetAt
    dsimp only
    rw [if_neg (by omega), if_neg (by omega), if_neg (by omega), if_neg (by omega), if_neg (by omega),
      cellAt_eq_some_iff.2 hi]
    rfl

/-- The addresses at which something can stand: a register's, or one below the end of a window's cells. -/
abbrev MappedAddress (b : Config.Build) (a : Nat) : Prop :=
  a ≤ 0x084 ∨ (0x1000 ≤ a ∧ a < 0x2000 ∧ a < 0x1000 + 4 * b.nMax) ∨ (0x2000 ≤ a ∧ a < 0x3000 ∧ a < 0x2000 + 4 * b.nMax) ∨
    (0x4000 ≤ a ∧ a < 0x6000 ∧ a < 0x4000 + 4 * (2 * b.nMax - 1)) ∨
    (0x6000 ≤ a ∧ a < 0x6000 + 4 * (2 * b.nMax - 1))

theorem Target.StandsAt.mappedAddress {b : Config.Build} {a : Nat} {t : Target} (h : t.StandsAt b a) : MappedAddress b a := by
  cases t with
  | reg r => exact .inl h.reg_le
  | sampleA i | sampleB i =>
    obtain ⟨hl, hu, hi, hc⟩ := h
    unfold Build.sampleCells at hi
    omega
  | result i | lut i =>
    obtain ⟨hl, hu, hi, hc⟩ := h
    unfold Build.resultCells at hi
    omega

/-- The other addresses are the holes of the map. -/
theorem targetAt_eq_none {b : Config.Build} {o : Offset} (h : ¬ MappedAddress b o.toNat) : targetAt b o = none :=
  Option.eq_none_iff_forall_ne_some.2 fun _ ht => h (targetAt_standsAt ht).mappedAddress

/-- The offset of cell `i` of a window is in that cell. -/
theorem inCell_ofNat {base limit size i : Nat} (hl : limit ≤ 0x8000) (hi : i < size) (hs : base + 4 * size ≤ limit) :
    InCell base limit size (BitVec.ofNat 15 (base + 4 * i)).toNat i := by
  rw [BitVec.toNat_ofNat, Nat.mod_eq_of_lt (by omega)]
  exact ⟨by omega, by omega, hi, by omega⟩

section -- each cell of a legal build at its offset (20_memory.md R72)
variable {b : Config.Build} (hb : b.wellFormed = true) {i : Nat}
include hb

theorem targetAt_sampleA (hi : i < b.nMax) : targetAt b (BitVec.ofNat 15 (0x1000 + 4 * i)) = some (.sampleA i) := by
  have hl := wellFormed_limits hb
  exact targetAt_eq_some_iff.2 (inCell_ofNat (by decide) hi (by unfold Build.sampleCells; omega))

theorem targetAt_sampleB (hi : i < b.nMax) : targetAt b (BitVec.ofNat 15 (0x2000 + 4 * i)) = some (.sampleB i) := by
  have hl := wellFormed_limits hb
  exact targetAt_eq_some_iff.2 (inCell_ofNat (by decide) hi (by unfold Build.sampleCells; omega))

theorem targetAt_result (hi : i < 2 * b.nMax - 1) :
    targetAt b (BitVec.ofNat 15 (0x4000 + 4 * i)) = some (.result i) := by
  have hl := wellFormed_limits hb
  exact targetAt_eq_some_iff.2 (inCell_ofNat (by decide) hi (by unfold Build.resultCells; omega))

end

/-- Settles O40: the cells and registers stand at their offsets; in a hole nothing does. -/
theorem addressMap : Obligations.AddressMap := by
  unfold Obligations.AddressMap
  intro b hb
  refine ⟨fun i hi => ⟨targetAt_sampleA hb hi, targetAt_sampleB hb hi⟩,
    fun i hi => ⟨targetAt_result hb hi, (targetAt_lut hb hi).2⟩, targetAt_reg b,
    fun o h1 h2 => targetAt_eq_none ?_, fun o h1 h2 => targetAt_eq_none ?_, fun o h1 h2 => targetAt_eq_none ?_,
    fun o h1 h2 => targetAt_eq_none ?_, fun o h1 h2 => targetAt_eq_none ?_, fun o h1 => targetAt_eq_none ?_⟩ <;> omega

/-! The checks of an access. -/

/-- An access that is aligned, whole and mapped is left to the target's kind and to BUSY (20_memory.md R74). -/
theorem busCheck_mapped {s : State} {o : Offset} {k : AccessKind} {t : Target} (ho : o.toNat % 4 = 0) (hk : k.fullWord = true)
    (ht : targetAt s.build o = some t) :
    busCheck s o k =
      if !t.allows k then .error .bus else if s.busy && t.restricted k then .error .busyAccess else .ok t := by
  unfold busCheck
  rw [if_neg (not_not.2 ho), hk, ht]
  rfl

/-- An access of a kind its target has is refused by BUSY or accepted (20_memory.md R83). -/
theorem busCheck_allowed {s : State} {o : Offset} {k : AccessKind} {t : Target} (ho : o.toNat % 4 = 0) (hk : k.fullWord = true)
    (ht : targetAt s.build o = some t) (ha : t.allows k = true) :
    busCheck s o k = if s.busy && t.restricted k then .error .busyAccess else .ok t := by
  rw [busCheck_mapped ho hk ht, ha]
  rfl

/-- An access is refused with BUS unless it is aligned, whole, mapped and of a kind the target has (20_memory.md R74 to R79). -/
theorem busCheck_bus {s : State} {o : Offset} {k : AccessKind}
    (h : o.toNat % 4 = 0 → k.fullWord = true → ∀ t, targetAt s.build o = some t → t.allows k = false) :
    busCheck s o k = .error .bus := by
  by_cases ho : o.toNat % 4 = 0
  · cases hk : k.fullWord with
    | false => simp [busCheck, hk]
    | true =>
      cases ht : targetAt s.build o with
      | none => simp [busCheck, ht]
      | some t => rw [busCheck_mapped ho hk ht, h ho hk t ht]; rfl
  · exact if_pos ho

/-- The register a table of offsets names, for a table that lists the registers of a property in order. -/
theorem exists_reg_of_mem {table : List Offset} {o : Offset} (ho : o ∈ table) (p : Reg → Bool)
    (h : table = (Reg.all.filter p).map fun r => BitVec.ofNat 15 r.offset) :
    ∃ r, p r = true ∧ BitVec.ofNat 15 r.offset = o := by
  subst h
  obtain ⟨r, hr, rfl⟩ := List.mem_map.1 ho
  exact ⟨r, (List.mem_filter.1 hr).2, rfl⟩

/-- At a register's offset an access of a kind the register lacks is refused with BUS (20_memory.md R79). -/
theorem busCheck_reg_bus (s : State) {r : Reg} {k : AccessKind} (ha : (Target.reg r).allows k = false) :
    busCheck s (BitVec.ofNat 15 r.offset) k = .error .bus :=
  busCheck_bus fun _ _ t ht => by
    cases (targetAt_reg s.build r).symm.trans ht
    exact ha

/-- The read-only windows of 20_memory.md R73. -/
theorem Target.StandsAt.not_writable {b : Config.Build} {a : Nat} {t : Target} (h : t.StandsAt b a) (h1 : 0x1000 ≤ a)
    (h2 : a < 0x6000) : t.writable = false := by
  cases t with
  | reg r =>
    have := h.reg_le
    omega
  | sampleA i | sampleB i | result i => rfl
  | lut i =>
    obtain ⟨hl, _⟩ := h
    omega

theorem State.busRead_refused {s : State} {o : Offset} {c : Cause} (h : busCheck s o .read = .error c) :
    s.busRead o = (s.recordErr c (offsetInfo o)).respond (.read true 0) := by
  rw [State.busRead, h]

theorem State.busWrite_refused {s : State} {o : Offset} {be : BitVec 4} {c : Cause} (h : busCheck s o (.write be) = .error c)
    (v : Word) : s.busWrite o v be = .next ((s.recordErr c (offsetInfo o)).respond (.write true)) := by
  rw [State.busWrite, h]

/-- Settles O41: each cause of BUS is a check of `busCheck_bus` that fails; a refused access records it and answers. -/
theorem refusedAccesses : Obligations.RefusedAccesses := by
  unfold Obligations.RefusedAccesses
  refine ⟨fun s o k ho => busCheck_bus fun h => absurd h ho, fun s o be hbe => busCheck_bus fun _ h => absurd h ?_,
    fun s o k hn => busCheck_bus fun _ _ t ht => ?_, fun s o be ho => ?_, fun s o be h1 h2 => busCheck_bus fun _ _ t ht => ?_,
    fun s o ho => ?_, fun s o c h => State.busRead_refused h, fun s o v be c h => State.busWrite_refused h v⟩
  · simpa [AccessKind.fullWord] using hbe
  · rw [hn] at ht
    cases ht
  · obtain ⟨r, hr, rfl⟩ := exists_reg_of_mem ho (fun r => r.kind == .ro) rfl
    exact busCheck_reg_bus s (by simpa [Target.allows, Target.writable] using hr)
  · exact (targetAt_standsAt ht).not_writable h1 h2
  · obtain ⟨r, hr, rfl⟩ := exists_reg_of_mem ho (fun r => r.kind == .wo) rfl
    exact busCheck_reg_bus s (by simpa [Target.allows, Target.readable] using hr)

/-! BUSY. -/

/-- What stands in a window is a cell, refused to reads while BUSY, and from 0x6000 on to writes (20_memory.md R83). -/
theorem Target.StandsAt.restricted {b : Config.Build} {a : Nat} {t : Target} (h : t.StandsAt b a) (h1 : 0x1000 ≤ a) :
    (t.readable = true ∧ t.readRestricted = true) ∧ (0x6000 ≤ a → t.writable = true ∧ t.writeRestricted = true) := by
  cases t with
  | reg r =>
    have := h.reg_le
    omega
  | sampleA i | sampleB i | result i =>
    obtain ⟨_, hu, _⟩ := h
    exact ⟨⟨rfl, rfl⟩, fun _ => by omega⟩
  | lut i => exact ⟨⟨rfl, rfl⟩, fun _ => ⟨rfl, rfl⟩⟩

/-- While BUSY a restricted access is refused (20_memory.md R83). -/
theorem busCheck_busyAccess {s : State} {o : Offset} {k : AccessKind} {t : Target} (hb : s.busy = true) (ho : o.toNat % 4 = 0)
    (hk : k.fullWord = true) (ht : targetAt s.build o = some t) (ha : t.allows k = true) (hr : t.restricted k = true) :
    busCheck s o k = .error .busyAccess := by
  rw [busCheck_allowed ho hk ht ha, hb, hr]
  rfl

/-- An access BUSY does not restrict is accepted, and while idle any. -/
theorem busCheck_accepted {s : State} {o : Offset} {k : AccessKind} {t : Target} (ho : o.toNat % 4 = 0)
    (hk : k.fullWord = true) (ht : targetAt s.build o = some t) (ha : t.allows k = true)
    (hr : s.busy = false ∨ t.restricted k = false) : busCheck s o k = .ok t := by
  rw [busCheck_allowed ho hk ht ha, if_neg (by rcases hr with hr | hr <;> simp [hr])]

theorem Reg.offset_aligned (r : Reg) : (BitVec.ofNat 15 r.offset).toNat % 4 = 0 := by
  cases r <;> decide

section -- the tables of 20_memory.md R83: the registers with an access of kind `k` that BUSY refuses, or does not
variable {s : State} {table : List Offset} {o : Offset} (ho : o ∈ table) {k : AccessKind} (hk : k.fullWord = true)
include ho hk

theorem busCheck_refused_table (hb : s.busy = true)
    (h : table = (Reg.all.filter fun r => (Target.reg r).allows k && (Target.reg r).restricted k).map
      fun r => BitVec.ofNat 15 r.offset) : busCheck s o k = .error .busyAccess := by
  obtain ⟨r, hr, rfl⟩ := exists_reg_of_mem ho _ h
  obtain ⟨ha, hr⟩ := Bool.and_eq_true_iff.1 hr
  exact busCheck_busyAccess hb r.offset_aligned hk (targetAt_reg s.build r) ha hr

theorem busCheck_accepted_table
    (h : table = (Reg.all.filter fun r => (Target.reg r).allows k && !(Target.reg r).restricted k).map
      fun r => BitVec.ofNat 15 r.offset) : ∃ t, busCheck s o k = .ok t := by
  obtain ⟨r, hr, rfl⟩ := exists_reg_of_mem ho _ h
  obtain ⟨ha, hr⟩ := Bool.and_eq_true_iff.1 hr
  exact ⟨_, busCheck_accepted r.offset_aligned hk (targetAt_reg s.build r) ha (.inr (by simpa using hr))⟩

end

/-- Settles O42: each table lists the registers of an access kind that BUSY refuses, or does not; the windows are refused. -/
theorem busyAccessTable : Obligations.BusyAccessTable := by
  unfold Obligations.BusyAccessTable
  intro s hb
  refine ⟨fun o ho => busCheck_refused_table ho rfl hb rfl, fun o ho => busCheck_refused_table ho rfl hb rfl,
    fun o t h1 ho ht => ?_, fun o ho => busCheck_accepted_table ho rfl rfl, fun o ho => busCheck_accepted_table ho rfl rfl⟩
  obtain ⟨⟨har, hrr⟩, hw⟩ := (targetAt_standsAt ht).restricted h1
  exact ⟨busCheck_busyAccess hb ho rfl ht har hrr, fun h2 => busCheck_busyAccess hb ho rfl ht (hw h2).1 (hw h2).2⟩

/-! Reads. -/

theorem State.busRead_accepted {s : State} {o : Offset} {t : Target} (h : busCheck s o .read = .ok t) :
    s.busRead o = s.respond (.read false (s.readTarget t)) := by
  rw [State.busRead, h]

/-- The block does not read its own last answer (notes/assumptions/13.md). -/
theorem State.readTarget_respond (s : State) (r : Response) (t : Target) : (s.respond r).readTarget t = s.readTarget t := by
  cases t with
  | reg r => cases r <;> rfl
  | _ => rfl

/-- An accepted read, done again, changes nothing more (20_memory.md R81). -/
theorem State.busRead_twice {s : State} {o : Offset} {t : Target} (h : busCheck s o .read = .ok t) :
    (s.busRead o).busRead o = s.busRead o := by
  have h' : busCheck (s.respond (.read false (s.readTarget t))) o .read = .ok t := h
  rw [State.busRead_accepted h, State.busRead_accepted h', State.readTarget_respond]
  rfl

/-- A cell read while idle. -/
theorem State.busRead_idle {s : State} {o : Offset} {t : Target} (hs : s.busy = false) (ho : o.toNat % 4 = 0)
    (ht : targetAt s.build o = some t) (hr : t.readable = true) : s.busRead o = s.respond (.read false (s.readTarget t)) :=
  State.busRead_accepted (busCheck_accepted ho rfl ht hr (.inl hs))

theorem cellOffset_aligned {base : Nat} (i : Nat) (hb : base % 4 = 0) : (BitVec.ofNat 15 (base + 4 * i)).toNat % 4 = 0 := by
  rw [BitVec.toNat_ofNat]
  omega

/-- The open reads are the readable registers that BUSY does not restrict, PARAMS and STATUS apart, each with its word. -/
theorem openReads_eq (s : State) :
    openReads s =
      (Reg.all.filter fun r => (Target.reg r).readable && !(Target.reg r).readRestricted && r != .params && r != .status).map
        fun r => (BitVec.ofNat 15 r.offset, s.readReg r) := by
  simp [openReads, Reg.all, Target.readable, Target.readRestricted, Reg.kind, Reg.offset, State.readReg, idWord,
    BitVec.setWidth_eq_append]

/-- The idle reads are the registers BUSY restricts, STREAM_LEVEL apart, each with its word. -/
theorem idleReads_eq (s : State) :
    idleReads s =
      (Reg.all.filter fun r => (Target.reg r).readRestricted && r != .streamLevel).map
        fun r => (BitVec.ofNat 15 r.offset, s.readReg r) := by
  simp [idleReads, Reg.all, Target.readRestricted, Reg.offset, State.readReg, BitVec.setWidth_eq_append]

theorem State.busRead_openReads (s : State) {p : Offset × Word} (hp : p ∈ openReads s) :
    s.busRead p.1 = s.respond (.read false p.2) := by
  rw [openReads_eq] at hp
  obtain ⟨r, hr, rfl⟩ := List.mem_map.1 hp
  have hr := (List.mem_filter.1 hr).2
  simp only [Bool.and_eq_true, Bool.not_eq_true', Target.readable, bne_iff_ne] at hr
  obtain ⟨⟨⟨hk, hb⟩, _⟩, _⟩ := hr
  exact s.busRead_reg r hk (.inr hb)

/-- BUSY restricts no read of a register that has none. -/
theorem Reg.kind_ne_wo_of_readRestricted {r : Reg} (h : (Target.reg r).readRestricted = true) : r.kind ≠ .wo := by
  revert h
  cases r <;> decide

theorem State.busRead_idleReads {s : State} (hs : s.busy = false) {p : Offset × Word} (hp : p ∈ idleReads s) :
    s.busRead p.1 = s.respond (.read false p.2) := by
  rw [idleReads_eq] at hp
  obtain ⟨r, hr, rfl⟩ := List.mem_map.1 hp
  have hr := (Bool.and_eq_true_iff.1 (List.mem_filter.1 hr).2).1
  exact s.busRead_reg r (Reg.kind_ne_wo_of_readRestricted hr) (.inl hs)

/-- The FIFO's depth fits the 16 bits of PARAMS and STREAM_LEVEL (00_scope.md R9). -/
theorem wellFormed_fifoDepth_le {b : Config.Build} (h : b.wellFormed = true) : b.fifoDepth ≤ 65535 := by
  simp only [Config.Build.wellFormed, Bool.and_eq_true, decide_eq_true_eq] at h
  omega

/-- The fields of PARAMS hold a legal build's parameters whole (10_state.md R23). -/
theorem paramsWord_fields {b : Config.Build} (hb : b.wellFormed = true) :
    ((paramsWord b).extractLsb' 0 11).toNat = b.nMax ∧ (paramsWord b).extractLsb' 11 5 = 0 ∧
      ((paramsWord b).extractLsb' 16 16).toNat = b.fifoDepth := by
  have hn := (wellFormed_limits hb).2.2
  have hd := wellFormed_fifoDepth_le hb
  unfold paramsWord
  refine ⟨?_, ?_, ?_⟩
  · rw [BitVec.extractLsb'_append_eq_of_add_le (by decide), BitVec.extractLsb'_eq_self, BitVec.toNat_ofNat,
      Nat.mod_eq_of_lt (by omega)]
  · rw [BitVec.extractLsb'_append_eq_of_le (by decide), BitVec.extractLsb'_append_eq_of_add_le (by decide),
      BitVec.extractLsb'_eq_self]
    rfl
  · rw [BitVec.extractLsb'_append_eq_of_le (by decide), BitVec.extractLsb'_append_eq_of_le (by decide),
      BitVec.extractLsb'_eq_self, BitVec.toNat_ofNat, Nat.mod_eq_of_lt (by omega)]

/-- STREAM_LEVEL is the FIFO's length, which fits its 16 bits (10_state.md R34, R46). -/
theorem State.streamLevel_fields {s : State} (h : s.Inv) :
    s.streamLevel.toNat = s.ingest.fifo.length ∧ s.streamLevel.extractLsb' 16 16 = 0 := by
  have hi := State.inv_iff_invParts.1 h
  have hl := hi.fifo_le.trans (wellFormed_fifoDepth_le hi.build)
  have hn : s.streamLevel.toNat = s.ingest.fifo.length := by
    rw [State.streamLevel, BitVec.toNat_ofNat, Nat.mod_eq_of_lt (by omega)]
  refine ⟨hn, BitVec.eq_of_toNat_eq ?_⟩
  rw [BitVec.extractLsb'_toNat, hn, Nat.shiftRight_eq_div_pow, Nat.div_eq_of_lt (by omega)]
  rfl

/-- Settles O43: registers by the tables of open and idle reads, then PARAMS, STREAM_LEVEL and the windows' cells. -/
theorem readsHaveNoSideEffect : Obligations.ReadsHaveNoSideEffect := by
  unfold Obligations.ReadsHaveNoSideEffect
  refine ⟨fun s o t h => ⟨⟨_, State.busRead_accepted h⟩, State.busRead_twice h⟩, fun s => ?_⟩
  refine ⟨fun p => s.busRead_openReads, s.busRead_status,
    fun hb => ⟨_, s.busRead_reg .params (by decide) (.inr rfl), paramsWord_fields hb⟩, fun hs => ?_⟩
  refine ⟨fun p => State.busRead_idleReads hs,
    fun h => ⟨_, s.busRead_reg .streamLevel (by decide) (.inl hs), State.streamLevel_fields h⟩,
    fun hb i hi => ⟨⟨_, State.busRead_idle hs (cellOffset_aligned i (by decide)) (targetAt_sampleA hb hi) rfl, ?_⟩,
      ⟨_, State.busRead_idle hs (cellOffset_aligned i (by decide)) (targetAt_sampleB hb hi) rfl, ?_⟩⟩,
    fun hb i hi => ⟨State.busRead_idle hs (cellOffset_aligned i (by decide)) (targetAt_result hb hi) rfl,
      State.lut_read hs hb hi⟩⟩
  · exact BitVec.toInt_signExtend_of_le (by decide)
  · exact BitVec.toInt_signExtend_of_le (by decide)

end Sys2Proof.Machine
end

section
/-! PROOF. O53: what BUSY freezes (20_memory.md R83, R88; 43_frame_ingest.md R197; 44_control.md R218). -/

namespace Sys2Proof.Machine

/-- A byte that arrives goes behind those in the FIFO (43_frame_ingest.md R190, R191). -/
theorem State.sameOperands_appendByte (s : State) (b : Byte) : s.SameOperands (s.appendByte b) :=
  ⟨rfl, rfl, rfl, rfl, rfl, rfl, rfl, rfl, rfl, rfl, rfl, List.prefix_append _ _, fun _ => rfl, fun _ => rfl, fun _ => rfl,
    fun _ => rfl⟩

theorem State.sameOperands_streamIn (s : State) (v : Word) : s.SameOperands (s.streamIn v) := by
  unfold State.streamIn
  split
  · exact s.sameOperands_appendByte _
  · exact .refl s

/-- While BUSY no command but NOP is accepted (44_control.md R211). -/
theorem Accepted.eq_of_busy {i : Instr} {s t : State} (h : Accepted i s t) (hb : s.busy = true) : t = s := by
  have idle {p : Prop} (h : s.busy = false ∧ p) : t = s := by simp [hb] at h
  cases i with
  | nop => exact h
  | _ => exact idle h

/-- While BUSY a write that is not refused changes no operand (20_memory.md R83). -/
theorem Written.sameOperands {s t : State} {v : Word} {g : Target} (hw : Written s v g t) (hb : s.busy = true) :
    s.SameOperands t := by
  cases hw with
  | illegal c => exact .refl s
  | command i t _ hx =>
    rcases exec_cases hx with ⟨c, rfl⟩ | ha
    · exact .refl s
    · rw [ha.eq_of_busy hb]
      exact .refl s
  | err => exact .refl s
  | irqEn => exact .refl s
  | streamIn => exact s.sameOperands_streamIn v
  | ctrl h | cfgN h | cfgFs h | cfgC h | cfgD h | aPush h | bPush h | lut _ h => exact absurd hb (by simp [h])

/-- While BUSY with `rst_n` high, of all moves only the engine's and the pin driven low change an operand. -/
theorem Moves.sameOperands {u t : State} {g : Agent} (hm : Moves u g t) (hn : u.env.rstN = true) (hb : u.busy = true)
    (hg : g ≠ .engine) (hr : g = .host → ∀ a rest, u.env.hostProgram = a :: rest → a ≠ .assertReset) :
    u.SameOperands t := by
  cases hm with
  | pass => exact .refl u
  | pinKept rest => exact .refl u
  | hardReset a rest level hp ha hl =>
    rcases ha with ⟨ha, _⟩ | ⟨_, rfl⟩
    · exact absurd ha (hr rfl a rest hp)
    · exact absurd hn hl
  | refused rest c info r => exact .refl u
  | answered rest r => exact .refl u
  | written o v rest p _ _ _ _ _ hw =>
    exact .trans (t := (u.programLeft rest).respond (.write false)) (.refl u) (hw.sameOperands hb)
  | stream b rest => exact u.sameOperands_appendByte b
  | engine => exact absurd rfl hg
  | loadStart _ h | discard _ h => exact absurd hb (by simp [h])

/-- Settles O53: a step is a move from the state at its turn, which has the same operands, pin and host's sequence. -/
theorem busyFreezesOperands : Obligations.BusyFreezesOperands := by
  unfold Obligations.BusyFreezesOperands
  intro s t hn hb hg hr hx
  exact s.atTurn_sameOperands.trans
    ((step_moves hx).sameOperands (by simpa using hn) (by simpa [State.busy] using hb) hg (by simpa using hr))

end Sys2Proof.Machine
end

section
/-! PROOF. O1, O2 and O3: the decoder, the encoder and the opcode table agree (30_encoding.md R100 to R104). Every word that is
not illegal is one the encoder makes, and the decoder reads no illegal word. -/

namespace Sys2Proof

open Laws.ReservedBits (rsvField_commandWord immField_commandWord)

/-! A word and its fields. -/

@[simp] theorem opField_commandWord (op : BitVec 4) (f : BitVec 1) (imm : BitVec 16) : opField (commandWord op f imm) = op :=
  BitVec.extractLsb'_append_eq_right

@[simp] theorem fField_commandWord (op : BitVec 4) (f : BitVec 1) (imm : BitVec 16) :
    fField (commandWord op f imm) = f.getLsbD 0 := by
  rw [fField, commandWord, BitVec.getLsbD_append, BitVec.getLsbD_append]
  rfl

/-- A word with RSV = 0 is its other three fields put together. -/
theorem commandWord_fields {w : Word} (h : rsvField w = 0) :
    commandWord (opField w) (BitVec.ofBool (fField w)) (immField w) = w := by
  have hf : BitVec.ofBool (fField w) = w.extractLsb' 4 1 := by
    ext k hk
    simp [fField, show k = 0 by omega]
  rw [commandWord, show 0#11 = rsvField w from h.symm, hf, opField, rsvField, immField,
    BitVec.extractLsb'_append_extractLsb'_eq_extractLsb' (start₂ := 16) (start₁ := 5) (len₁ := 11) rfl,
    BitVec.extractLsb'_append_extractLsb'_eq_extractLsb' (start₂ := 5) (start₁ := 4) (len₁ := 1) rfl,
    BitVec.extractLsb'_append_extractLsb'_eq_extractLsb' (start₂ := 4) (start₁ := 0) (len₁ := 4) rfl]
  exact BitVec.extractLsb'_eq_self

/-! The rows with neither a modifier nor an immediate. -/

theorem plainRow_eq_none_iff : ∀ {op : BitVec 4}, plainRow op = none ↔ 9 ≤ op.toNat ∨ op = 0x1 ∨ op = 0x3 := by decide

theorem encode_of_plainRow : ∀ {op : BitVec 4} {i : Instr}, plainRow op = some i →
    i.wellFormed = true ∧ encode i = commandWord op 0 0 := by decide

/-! The encoder makes every word that is not illegal. -/

theorem exists_encode_of_not_illegalWord {w : Word} (h : ¬ illegalWord w) :
    ∃ i : Instr, i.wellFormed = true ∧ encode i = w := by
  simp only [illegalWord, not_or, not_and, not_le, not_not, ne_eq] at h
  obtain ⟨hop, hr, hf, hi⟩ := h
  rw [← commandWord_fields hr]
  by_cases hx : opField w = 0x3 ∧ fField w = true
  · exact ⟨.angleI (immField w).toNat, decide_eq_true (immField w).isLt, by simp [encode, hx]⟩
  · rw [show immField w = 0 by tauto]
    cases hp : plainRow (opField w) with
    | some i =>
      have hn := mt plainRow_eq_none_iff.2 (by rw [hp]; exact nofun)
      rw [show fField w = false by grind]
      exact ⟨i, encode_of_plainRow hp⟩
    | none =>
      rcases plainRow_eq_none_iff.1 hp with h9 | h1 | h3
      · omega
      · rw [h1]
        cases fField w
        · exact ⟨.corrX, rfl, rfl⟩
        · exact ⟨.corrC, rfl, rfl⟩
      · rw [h3, show fField w = false by simpa [h3] using hx]
        exact ⟨.angle, rfl, rfl⟩

/-! The decoder. -/

/-- Each way a word can be illegal ends the decoder's checks in an error. -/
theorem decode_ne_ok_of_illegalWord {w : Word} (h : illegalWord w) (i : Instr) : decode w ≠ .ok i := by
  unfold decode
  rcases h with h9 | hr | ⟨hf, h1, h3⟩ | ⟨hi, hx⟩
  · have h1 : opField w ≠ 0x1 := by intro ho; simp [ho] at h9
    have h3 : opField w ≠ 0x3 := by intro ho; simp [ho] at h9
    rw [if_neg h1, if_neg h3, plainRow_eq_none_iff.2 (.inl h9)]
    split <;> exact nofun
  · rw [if_pos hr]
    exact nofun
  · rw [if_neg h1, if_neg h3, hf]
    cases plainRow (opField w) <;> split <;> exact nofun
  · split_ifs with hr h1 h3 hf
    · exact nofun
    · exact nofun
    · exact absurd ⟨h3, hf⟩ hx
    · exact nofun
    · cases plainRow (opField w) <;> exact nofun
    · cases plainRow (opField w) <;> exact nofun

theorem decode_encode {i : Instr} (h : i.wellFormed = true) : decode (encode i) = .ok i := by
  cases i with
  | angleI imm =>
    have himm : imm % 65536 = imm := by simpa [Instr.wellFormed] using h
    simp [decode, encode, rsvField_commandWord, immField_commandWord, himm]
  | _ => rfl

theorem decode_eq_ok_iff {w : Word} {i : Instr} : decode w = .ok i ↔ i.wellFormed = true ∧ encode i = w := by
  constructor
  · intro h
    obtain ⟨j, hj, rfl⟩ := exists_encode_of_not_illegalWord fun hw => decode_ne_ok_of_illegalWord hw i h
    cases h.symm.trans (decode_encode hj)
    exact ⟨hj, rfl⟩
  · rintro ⟨hi, rfl⟩
    exact decode_encode hi

theorem illegalWord_iff {w : Word} : illegalWord w ↔ ∀ i, decode w ≠ .ok i := by
  refine ⟨decode_ne_ok_of_illegalWord, fun h => by_contra fun hw => ?_⟩
  obtain ⟨i, hi⟩ := exists_encode_of_not_illegalWord hw
  exact h i (decode_eq_ok_iff.2 hi)

/-- Settles O1: a word read as a command is not illegal, hence some instruction's word, which decodes to that instruction. -/
theorem decodeInvertsEncode : Obligations.DecodeInvertsEncode :=
  ⟨fun _ => decode_encode, fun _ _ => decode_eq_ok_iff.1⟩

/-! The rows of the opcode table. -/

/-- ANGLE.I's word is its index above the 16 bits of its row. -/
theorem encode_angleI (k : Nat) : encode (.angleI k) = BitVec.ofNat 16 k ++ 0x13#16 := by
  rw [encode, commandWord, BitVec.append_assoc, BitVec.append_assoc]
  rfl

/-- Every row but ANGLE.I's has a full mask and matches the one word of its instruction. -/
theorem opcodeRow_cases (i : Instr) :
    (∃ k, i = .angleI k) ∨ (i.wellFormed = true ∧ opcodeRow i = (BitVec.allOnes 32, encode i)) := by
  cases i with
  | angleI k => exact .inl ⟨k, rfl⟩
  | _ => exact .inr ⟨rfl, rfl⟩

theorem append_and_lowMask (x y : BitVec 16) : (x ++ y : Word) &&& 0x0000FFFF = 0#16 ++ y := by
  rw [show (0x0000FFFF : Word) = 0#16 ++ BitVec.allOnes 16 from rfl, BitVec.and_append, BitVec.and_allOnes, BitVec.and_zero]

theorem matchesRow_encode (i : Instr) : matchesRow (encode i) i = true := by
  rcases opcodeRow_cases i with ⟨k, rfl⟩ | ⟨_, hrow⟩
  · rw [matchesRow, opcodeRow, encode_angleI, append_and_lowMask]
    rfl
  · rw [matchesRow, hrow, BitVec.and_allOnes, beq_self_eq_true]

/-- A word that matches ANGLE.I's row is ANGLE.I's word with the index in its IMM16; one that matches another row is the row's. -/
theorem exists_encode_of_matchesRow {w : Word} {i : Instr} (h : matchesRow w i = true) :
    ∃ j : Instr, j.wellFormed = true ∧ opcodeRow j = opcodeRow i ∧ encode j = w := by
  rw [matchesRow, beq_iff_eq] at h
  rcases opcodeRow_cases i with ⟨k, rfl⟩ | ⟨hi, hrow⟩
  · refine ⟨.angleI (immField w).toNat, decide_eq_true (immField w).isLt, rfl, ?_⟩
    have hw : immField w ++ w.extractLsb' 0 16 = w := BitVec.extractLsb'_append_extractLsb'
    rw [← hw, opcodeRow, append_and_lowMask] at h
    rw [encode_angleI, BitVec.ofNat_toNat, BitVec.setWidth_eq, ← (BitVec.append_right_inj 0#16 (t₂ := 0x13#16)).1 h, hw]
  · rw [hrow, BitVec.and_allOnes] at h
    exact ⟨i, hi, rfl, h.symm⟩

/-- A word matches a row exactly when it is read as an instruction of that row. -/
theorem matchesRow_iff {w : Word} {i : Instr} :
    matchesRow w i = true ↔ ∃ j, decode w = .ok j ∧ opcodeRow j = opcodeRow i := by
  constructor
  · intro h
    obtain ⟨j, hj, hrow, hw⟩ := exists_encode_of_matchesRow h
    exact ⟨j, decode_eq_ok_iff.2 ⟨hj, hw⟩, hrow⟩
  · rintro ⟨j, hd, hrow⟩
    obtain ⟨_, rfl⟩ := decode_eq_ok_iff.1 hd
    rw [matchesRow, ← hrow]
    exact matchesRow_encode j

/-- Settles O2: two rows that match one word are both the row of the instruction it is read as. -/
theorem acceptedWordsMatchOneRow : Obligations.AcceptedWordsMatchOneRow := by
  refine ⟨fun _ i h => matchesRow_iff.2 ⟨i, h, rfl⟩, fun _ _ => matchesRow_iff.1, fun w i j hi hj => ?_⟩
  obtain ⟨k, hk, hki⟩ := matchesRow_iff.1 hi
  obtain ⟨l, hl, hlj⟩ := matchesRow_iff.1 hj
  cases hk.symm.trans hl
  exact hki.symm.trans hlj

/-- Settles O3, by evaluation of the decoder. -/
theorem tableWordsDecode : Obligations.TableWordsDecode :=
  ⟨rfl, rfl, rfl, rfl, rfl, rfl, rfl, rfl, rfl, rfl, rfl, rfl, rfl, rfl, rfl⟩

end Sys2Proof
end

section
/-! PROOF. O4 and O59: a word written to CMD that is no command (30_encoding.md R104; 44_control.md R211), and the host's lines
(30_encoding.md R106 to R108). -/

namespace Sys2Proof.Machine

/-! A word that is no command. -/

theorem State.busWrite_cmd_eq_command (s : State) (w : Word) : s.busWrite 0x010 w 0b1111 = (s.respond (.write false)).command w :=
  s.busWrite_reg .cmd w (by decide) (.inr rfl)

theorem State.command_of_illegalWord (s : State) {w : Word} (h : illegalWord w) :
    s.command w = .next (s.recordErr (if s.busy then .cmdBusy else .illegalCmd) w) := by
  unfold State.command
  cases hd : decode w with
  | error e => rfl
  | ok i => exact absurd hd (decode_ne_ok_of_illegalWord h i)

/-- Settles O4: of an illegal word the decoder gives an error, of every other an instruction; CMD's write rule is
`State.command`. -/
theorem illegalWordsRaiseIllegalCmd : Obligations.IllegalWordsRaiseIllegalCmd := by
  refine ⟨fun _ => illegalWord_iff, State.busWrite_cmd_eq_command, fun s w hb hw => ?_⟩
  have command {t : State} (ht : t.busy = false) : t.command w = .next (t.recordErr .illegalCmd w) := by
    rw [t.command_of_illegalWord hw, ht]
    rfl
  exact ⟨command hb, (s.busWrite_cmd_eq_command w).trans (command hb)⟩

/-! The host's lines. -/

theorem encode_angleI_eq_shift {k : Nat} (hk : k < 65536) : encode (.angleI k) = BitVec.ofNat 32 k <<< 16 ||| 0x13 := by
  rw [encode_angleI, ← BitVec.setWidth_eq (BitVec.ofNat 16 k ++ 0x13#16), BitVec.setWidth_append_eq_shiftLeft_setWidth_or,
    BitVec.setWidth_ofNat_of_le_of_lt (by decide) hk]
  rfl

theorem lowByte_toNat (v : Int) : (lowByte v).toNat = (v % 256).toNat := by
  rw [lowByte, BitVec.toNat_and, BitVec.toNat_ofInt, show (0xFF : Word).toNat = 2 ^ 8 - 1 from rfl,
    Nat.and_two_pow_sub_one_eq_mod]
  omega

/-- The byte of a sample's word is the sample (00_scope.md R12). -/
theorem lowByte_byte {v : Int} (h1 : -128 ≤ v) (h2 : v ≤ 127) : ((lowByte v).extractLsb' 0 8).toInt = v := by
  have h : (lowByte v).extractLsb' 0 8 = BitVec.ofInt 8 v := by
    apply BitVec.eq_of_toNat_eq
    rw [BitVec.extractLsb'_toNat, lowByte_toNat, BitVec.toNat_ofInt]
    omega
  rw [h]
  exact BitVec.toInt_ofInt_eq_self (by decide) h1 (by omega)

/-- Bit 0 of STATUS is BUSY (10_state.md R25). -/
theorem State.statusWord_busy (s : State) : s.statusWord.getLsbD 0 = s.busy := s.statusWord_getLsbD (by decide)

/-- A round of `wait` reads STATUS, and leaves the program to its rest only if BUSY is 0 (30_encoding.md R108). -/
theorem State.hostStep_wait {s : State} {rest : List HostAction} (hn : s.env.rstN = true)
    (hp : s.env.hostProgram = .poll 0 false :: rest) :
    s.hostStep =
      .next (if s.busy = false then (s.respond (.read false s.statusWord)).programLeft rest
        else s.respond (.read false s.statusWord)) := by
  rw [State.hostStep, hp, ← s.statusWord_busy]
  exact State.hostAct_poll hn rest 0 false

/-- Settles O59: each line's expansion is its definition's; a round of `wait` is a read of STATUS, bit 0 of which is BUSY. -/
theorem hostLinesAndWait : Obligations.HostLinesAndWait := by
  refine ⟨fun _ => rfl, fun _ => encode_angleI_eq_shift,
    fun v h1 h2 => ⟨lowByte v, rfl, rfl, rfl, ?_, lowByte_byte h1 h2⟩, rfl, fun s rest hn hp => ⟨_, State.hostStep_wait hn hp, ?_⟩⟩
  · rw [lowByte_toNat]
    omega
  · cases hb : s.busy with
    | false => exact ⟨rfl, fun _ => rfl, nofun⟩
    | true => exact ⟨rfl, nofun, fun _ => rfl⟩

end Sys2Proof.Machine
end


section
/-! PROOF. O9, O14 and O17: the CORR issue effect, the frame of every command, and the CORR stage's effect (40_correlation.md R121
to R123, R130; 44_control.md R210 to R219). -/

namespace Sys2Proof.Machine

/-! The issue of a command. -/

/-- Settles O9: with its checks passed, each command's issue is its named effect. -/
theorem corrIssueEffect : Obligations.CorrIssueEffect := by
  unfold Obligations.CorrIssueEffect
  intro s hb hf
  have hl := checkLength_eq_none.2 hf
  exact ⟨State.issue_accepted hb hl, State.issue_accepted hb hl, fun _ => rfl, fun hg =>
    State.issue_accepted hb (firstFailure_eq_none.2 ⟨hl, checkGeometry_eq_none.2 hg⟩)⟩

theorem State.SameRams.refl (s : State) : s.SameRams s := ⟨fun _ => rfl, fun _ => rfl, fun _ => rfl, fun _ => rfl⟩

/-- Settles O14: a rejected command changes the error record alone; an accepted one is its named effect, and where that changes a
part, the clause about that part excludes the command. -/
theorem commandFrame : Obligations.CommandFrame := by
  unfold Obligations.CommandFrame
  intro i s t h
  have hram := State.SameRams.refl s
  rcases exec_cases h with ⟨c, rfl⟩ | ha
  · exact ⟨rfl, rfl, rfl, rfl, hram, fun _ _ => rfl, fun _ _ => rfl, fun _ => ⟨rfl, rfl, rfl, rfl⟩, fun _ _ _ _ => rfl,
      fun _ => ⟨rfl, rfl⟩, fun _ => rfl⟩
  cases i with
  | nop =>
    cases ha
    exact ⟨rfl, rfl, rfl, rfl, hram, fun _ _ => rfl, fun _ _ => rfl, fun _ => ⟨rfl, rfl, rfl, rfl⟩, fun _ _ _ _ => rfl,
      fun _ => ⟨rfl, rfl⟩, nofun⟩
  | corrX =>
    obtain ⟨_, _, rfl⟩ := ha
    exact ⟨rfl, rfl, rfl, rfl, hram, fun _ _ => rfl, fun _ _ => rfl, fun _ => ⟨rfl, rfl, rfl, rfl⟩, fun h => absurd rfl h,
      by simp, nofun⟩
  | corrC =>
    obtain ⟨_, _, rfl⟩ := ha
    exact ⟨rfl, rfl, rfl, rfl, hram, fun _ _ => rfl, fun _ _ => rfl, fun _ => ⟨rfl, rfl, rfl, rfl⟩, fun _ h => absurd rfl h,
      by simp, nofun⟩
  | peak =>
    obtain ⟨_, _, rfl⟩ := ha
    exact ⟨rfl, rfl, rfl, rfl, hram, fun _ _ => rfl, fun _ _ => rfl, fun _ => ⟨rfl, rfl, rfl, rfl⟩, fun _ _ _ _ => rfl,
      by simp, nofun⟩
  | angle =>
    obtain ⟨_, _, _, rfl⟩ := ha
    exact ⟨rfl, rfl, rfl, rfl, hram, fun _ _ => rfl, fun _ _ => rfl, fun _ => ⟨rfl, rfl, rfl, rfl⟩, fun _ _ _ _ => rfl,
      by simp, nofun⟩
  | angleI imm =>
    obtain ⟨_, _, _, rfl⟩ := ha
    exact ⟨rfl, rfl, rfl, rfl, hram, fun _ _ => rfl, fun _ _ => rfl, fun _ => ⟨rfl, rfl, rfl, rfl⟩, fun _ _ _ _ => rfl,
      by simp, nofun⟩
  | run =>
    obtain ⟨_, _, _, rfl⟩ := ha
    exact ⟨rfl, rfl, rfl, rfl, hram, fun _ _ => rfl, fun _ _ => rfl, fun _ => ⟨rfl, rfl, rfl, rfl⟩, fun _ _ h => absurd rfl h,
      by simp, nofun⟩
  | clrbuf =>
    obtain ⟨_, rfl⟩ := ha
    exact ⟨rfl, rfl, rfl, rfl, hram, fun h => absurd rfl h, fun _ _ => rfl, fun _ => ⟨rfl, rfl, rfl, rfl⟩,
      fun _ _ _ _ => rfl, fun _ => ⟨rfl, rfl⟩, nofun⟩
  | ack =>
    obtain ⟨_, rfl⟩ := ha
    exact ⟨rfl, rfl, rfl, rfl, hram, fun _ _ => rfl, fun _ _ => rfl, fun _ => ⟨rfl, rfl, rfl, rfl⟩, fun _ _ _ _ => rfl,
      fun _ => ⟨rfl, rfl⟩, nofun⟩
  | flush =>
    obtain ⟨_, rfl⟩ := ha
    exact ⟨rfl, rfl, rfl, rfl, hram, fun _ _ => rfl, fun h => absurd rfl h, fun _ => ⟨rfl, rfl, rfl, rfl⟩,
      fun _ _ _ _ => rfl, fun _ => ⟨rfl, rfl⟩, fun _ => rfl⟩
  | sreset =>
    obtain ⟨hb, rfl⟩ := ha
    exact ⟨rfl, rfl, rfl, rfl, hram, fun _ h => absurd rfl h, fun _ h => absurd rfl h, fun h => absurd rfl h,
      fun _ _ _ h => absurd rfl h, fun _ => ⟨rfl, (State.busy_eq_false.1 hb).symm⟩, nofun⟩

/-! The CORR stage. -/

/-- Settles O17: the stage's writes are `corrWrites`; what follows changes STATUS alone. -/
theorem corrStageEffect : Obligations.CorrStageEffect := by
  unfold Obligations.CorrStageEffect
  intro s hs
  have hin (i : Nat) (hi : i < s.resultLen) :
      s.corrWrites.readRes i = BitVec.ofInt 32 (correlate s.eng.mode s.sampleA s.sampleB s.n i) := by
    rw [State.corrWrites_readRes, if_pos hi]
  have hout (i : Nat) (hi : s.resultLen ≤ i) : s.corrWrites.readRes i = s.readRes i := by
    rw [State.corrWrites_readRes, if_neg hi.not_gt]
  rw [State.engineStep_corr hs]
  rcases s.completeCorr_cases with ⟨hc, hx⟩ | ⟨hc, hx⟩ <;> rw [hx, hc]
  · exact ⟨hin, hout, fun _ => ⟨rfl, rfl, rfl⟩, rfl, fun _ => rfl, nofun, rfl, rfl, rfl, rfl, rfl, rfl, rfl, rfl, rfl⟩
  · exact ⟨hin, hout, fun _ => ⟨rfl, rfl, rfl⟩, rfl, nofun, fun _ => rfl, rfl, rfl, rfl, rfl, rfl, rfl, rfl, rfl, rfl⟩

end Sys2Proof.Machine
end


section
/-! PROOF. O18, O20, O21 and O22: the correlation sums (40_correlation.md R124, R126, R128, R132, R133). The running sum is a sum
over `Finset.range`; the identities of R132 exchange the two indexes of a product; at a nonzero lag twice a product is at most the
sum of the two squares, and the first nonzero sample's square has no product against it. -/

namespace Sys2Proof.Machine

theorem runningSum_eq_sum (f : Nat → Int) (n : Nat) : runningSum f n = ∑ j ∈ Finset.range n, f j := by
  induction n with
  | zero => rfl
  | succ n ih => rw [runningSum, ih, Finset.sum_range_succ]

theorem correlate_eq_sum (m : Mode) (a b : Nat → Int) (n i : Nat) :
    correlate m a b n i = ∑ j ∈ Finset.range n, corrTerm m a b n i j :=
  runningSum_eq_sum _ n

/-! The formulas. -/

theorem corrTerm_conv (a b : Nat → Int) {n : Nat} (hn : 1 ≤ n) (i j : Nat) :
    corrTerm .conv a b n i j = if j ≤ i ∧ i - j ≤ n - 1 then a j * b (i - j) else 0 := by
  unfold corrTerm pairedIndex
  dsimp only
  rw [Int.toNat_sub]
  exact if_congr (by omega) rfl rfl

/-- Settles O18: the running sum as a sum over the `j` whose product is not left out. -/
theorem correlationFormulas : Obligations.CorrelationFormulas := by
  unfold Obligations.CorrelationFormulas
  refine ⟨fun n lag j => by omega, fun a b n i _ _ => ?_, fun a b n i hn _ => ?_⟩
  · rw [correlate_eq_sum, Finset.sum_filter]
    rfl
  · rw [correlate_eq_sum, Finset.sum_filter]
    exact Finset.sum_congr rfl fun j _ => corrTerm_conv a b hn i j

/-- Settles O20: a permutation of the indexes permutes the list of products, and a list's sum does not see its order. -/
theorem anyAccumulationOrder : Obligations.AnyAccumulationOrder := by
  unfold Obligations.AnyAccumulationOrder
  intro m a b n i js h
  rw [correlate_eq_sum, (h.map _).sum_eq]
  rfl

/-! The identities. -/

/-- A product over the pairs of indexes, the partner picked out by its index. -/
theorem corrTerm_eq_sum (m : Mode) (a b : Nat → Int) (n i j : Nat) :
    corrTerm m a b n i j = ∑ k ∈ Finset.range n, if (k : Int) = pairedIndex m n i j then a j * b k else 0 := by
  unfold corrTerm
  dsimp only
  split
  case isTrue h =>
    rw [Finset.sum_eq_single_of_mem (pairedIndex m n i j).toNat (Finset.mem_range.2 (by omega)),
      if_pos (Int.toNat_of_nonneg h.1)]
    intro k _ hk
    exact if_neg (by omega)
  case isFalse h =>
    refine (Finset.sum_eq_zero fun k hk => if_neg ?_).symm
    rw [Finset.mem_range] at hk
    omega

/-- Swapping the sequences negates the lag (40_correlation.md R132). -/
theorem correlate_cross_swap (a b : Nat → Int) {n i : Nat} (hn : 1 ≤ n) (hi : i ≤ 2 * n - 2) :
    correlate .cross a b n i = correlate .cross b a n (2 * n - 2 - i) := by
  simp only [correlate_eq_sum, corrTerm_eq_sum]
  rw [Finset.sum_comm]
  refine Finset.sum_congr rfl fun k _ => Finset.sum_congr rfl fun j _ => if_congr ?_ (mul_comm _ _) rfl
  simp only [pairedIndex]
  omega

/-- Reversing the second sequence turns the convolution's partner `i - j` into a cross-correlation's (40_correlation.md R132). -/
theorem correlate_conv_eq_cross (a b : Nat → Int) {n i : Nat} (hn : 1 ≤ n) (hi : i ≤ 2 * n - 2) :
    correlate .conv a b n i = correlate .cross a (fun k => b (n - 1 - k)) n (2 * n - 2 - i) := by
  rw [correlate_eq_sum, correlate_eq_sum]
  refine Finset.sum_congr rfl fun j _ => ?_
  rw [corrTerm_conv a b hn]
  unfold corrTerm pairedIndex
  dsimp only
  by_cases h : j ≤ i ∧ i - j ≤ n - 1
  · rw [if_pos h, if_pos (by omega)]
    congr 2
    omega
  · rw [if_neg h, if_neg (by omega)]

/-- Settles O21: the two identities of R132. -/
theorem modeIdentities : Obligations.ModeIdentities := by
  unfold Obligations.ModeIdentities
  exact fun a b n i hn hi => ⟨correlate_cross_swap a b hn hi, correlate_conv_eq_cross a b hn hi⟩

/-! The autocorrelation. -/

theorem correlate_cross_zero_lag (a : Nat → Int) {n : Nat} (hn : 1 ≤ n) :
    correlate .cross a a n (n - 1) = ∑ j ∈ Finset.range n, a j ^ 2 := by
  rw [correlate_eq_sum]
  refine Finset.sum_congr rfl fun j hj => ?_
  rw [Finset.mem_range] at hj
  have hk : pairedIndex .cross n (n - 1) j = j := by
    simp only [pairedIndex]
    omega
  rw [corrTerm, hk, if_pos (by omega), Int.toNat_natCast, sq]

/-- At the lag `-l` the partner of `j` is `j - l`. -/
theorem corrTerm_cross_negative_lag (a b : Nat → Int) {n i j l : Nat} (hl : i + l + 1 = n) (hj : j < n) :
    corrTerm .cross a b n i j = if l ≤ j then a j * b (j - l) else 0 := by
  have hk : pairedIndex .cross n i j = (j : Int) - l := by
    simp only [pairedIndex]
    omega
  rw [corrTerm, hk, Int.toNat_sub]
  exact if_congr (by omega) rfl rfl

theorem sum_shifted (g : Nat → Int) (n l : Nat) :
    (∑ j ∈ Finset.range n, if l ≤ j then g (j - l) else 0) = ∑ j ∈ Finset.range (n - l), g j := by
  induction n with
  | zero => simp
  | succ n ih =>
    rw [Finset.sum_range_succ, ih]
    by_cases h : l ≤ n
    · rw [if_pos h, Nat.succ_sub h, Finset.sum_range_succ]
    · rw [if_neg h, add_zero, Nat.sub_eq_zero_of_le (by omega), Nat.sub_eq_zero_of_le (by omega)]

/-- Below zero lag: the square of the first nonzero sample stands against a zero product, so twice the products stay below the
squares of both factors. -/
theorem abs_correlate_cross_lt (a : Nat → Int) {n i l : Nat} (hl : i + l + 1 = n) (h0 : 0 < l)
    (ha : ∃ j, j < n ∧ a j ≠ 0) : |correlate .cross a a n i| < ∑ j ∈ Finset.range n, a j ^ 2 := by
  obtain ⟨hfn, hfa⟩ := Nat.find_spec ha
  have hbefore (k : Nat) (hk : k < Nat.find ha) : a k = 0 := by
    by_contra h
    exact Nat.find_min ha hk ⟨hk.trans hfn, h⟩
  have hle (j : Nat) (hj : j ∈ Finset.range n) :
      2 * |corrTerm .cross a a n i j| ≤ a j ^ 2 + if l ≤ j then a (j - l) ^ 2 else 0 := by
    rw [corrTerm_cross_negative_lag a a hl (Finset.mem_range.1 hj)]
    split
    · rw [abs_mul, ← mul_assoc, ← sq_abs (a j), ← sq_abs (a (j - l))]
      exact two_mul_le_add_sq _ _
    · simpa using sq_nonneg (a j)
  have hlt : 2 * |corrTerm .cross a a n i (Nat.find ha)| <
      a (Nat.find ha) ^ 2 + if l ≤ Nat.find ha then a (Nat.find ha - l) ^ 2 else 0 := by
    have hsq : 0 < a (Nat.find ha) ^ 2 := sq_pos_of_ne_zero hfa
    rw [corrTerm_cross_negative_lag a a hl hfn]
    split
    · rw [hbefore (Nat.find ha - l) (by omega)]
      simpa using hsq
    · simpa using hsq
  have hsum := Finset.sum_lt_sum hle ⟨_, Finset.mem_range.2 hfn, hlt⟩
  rw [← Finset.mul_sum, Finset.sum_add_distrib, sum_shifted (fun j => a j ^ 2)] at hsum
  have hpart : ∑ j ∈ Finset.range (n - l), a j ^ 2 ≤ ∑ j ∈ Finset.range n, a j ^ 2 :=
    Finset.sum_le_sum_of_subset_of_nonneg (Finset.range_mono (Nat.sub_le n l)) fun j _ _ => sq_nonneg (a j)
  have habs := Finset.abs_sum_le_sum_abs (corrTerm .cross a a n i) (Finset.range n)
  rw [correlate_eq_sum]
  linarith

/-- Settles O22: a positive lag is the negative one of the same size, by the first identity of R132. -/
theorem autocorrelationPeaksAtZeroLag : Obligations.AutocorrelationPeaksAtZeroLag := by
  unfold Obligations.AutocorrelationPeaksAtZeroLag
  intro a n hn ha
  rw [correlate_cross_zero_lag a hn]
  refine ⟨rfl, fun i hi hne => ?_⟩
  rcases lt_or_gt_of_ne hne with h | h
  · exact abs_correlate_cross_lt a (l := n - 1 - i) (by omega) (by omega) ha
  · rw [correlate_cross_swap a a hn hi]
    exact abs_correlate_cross_lt a (l := i - (n - 1)) (by omega) (by omega) ha

end Sys2Proof.Machine
end


section
/-! PROOF. O19: every partial sum of the products fits, and every integer up to 2^24 is exact in binary32 (40_correlation.md R127). -/

namespace Sys2Proof.F32

/-! A sign bit and a magnitude put together. -/

theorem toNat_withSign (b : Bool) {m : Nat} (hm : m < 2 ^ 31) : (withSign b m).toNat = (if b then 2 ^ 31 else 0) + m := by
  have hof : (BitVec.ofNat 32 m).toNat = m := (BitVec.toNat_ofNat _ _).trans (Nat.mod_eq_of_lt (by omega))
  cases b with
  | false => simp [withSign, Nat.mod_eq_of_lt (show m < 4294967296 by omega)]
  | true =>
    rw [withSign, if_pos rfl, BitVec.toNat_or, hof, if_pos rfl]
    exact (Nat.two_pow_add_eq_or_of_lt hm 1).symm

theorem sign_withSign (b : Bool) {m : Nat} (hm : m < 2 ^ 31) : sign (withSign b m) = b := by
  rw [Config.sign_eq, toNat_withSign b hm]
  cases b with
  | false => simpa using hm
  | true => simp

theorem mag_withSign (b : Bool) {m : Nat} (hm : m < 2 ^ 31) : mag (withSign b m) = m := by
  rw [Config.mag_eq, toNat_withSign b hm]
  cases b <;> simpa using hm

theorem toRat_withSign (b : Bool) {m : Nat} (hm : m < 2 ^ 31) :
    toRat (withSign b m) = if b then -magValue m else magValue m := by
  rw [toRat_eq, sign_withSign b hm, mag_withSign b hm]

theorem isFinite_withSign (b : Bool) {m : Nat} (hm : m < infMag) : isFinite (withSign b m) = true := by
  have hlt : m < 255 * 2 ^ 23 := hm
  have he : m / 2 ^ 23 ≠ 255 := by omega
  rw [isFinite, expo_eq, mag_withSign b (by omega)]
  simpa using he

/-! Exact integers. -/

/-- A quotient that is a finite magnitude's value rounds to that magnitude. -/
theorem roundMag_eq_of_magValue {n d y : Nat} (hn : 0 < n) (hd : 0 < d) (hy : y < infMag)
    (h : magValue y = (n : ℚ) / d) : roundMag n d = y := by
  have hnear := (nearMag_nearest hn hd y).1
  rw [h, sub_self, abs_zero, abs_nonpos_iff, sub_eq_zero, ← h] at hnear
  rw [roundMag_eq_min hn, magValue_strictMono.injective hnear, min_eq_left hy.le]

/-- A positive number up to 2^24 has a power of two that brings it between 2^23 and 2^24. -/
theorem exists_normalizing_shift {n : Nat} (hpos : 0 < n) (hn : n ≤ 2 ^ 24) :
    ∃ k ≤ 23, 2 ^ 23 ≤ n * 2 ^ k ∧ n * 2 ^ k ≤ 2 ^ 24 := by
  rcases Nat.lt_or_ge n (2 ^ 23) with h | h
  · have hlog : Nat.log2 n < 23 := (Nat.log2_lt hpos.ne').2 h
    refine ⟨23 - Nat.log2 n, Nat.sub_le _ _, ?_, ?_⟩
    · calc 2 ^ 23 = 2 ^ Nat.log2 n * 2 ^ (23 - Nat.log2 n) := by rw [← pow_add, Nat.add_sub_cancel' hlog.le]
        _ ≤ n * 2 ^ (23 - Nat.log2 n) := Nat.mul_le_mul_right _ (Nat.log2_self_le hpos.ne')
    · calc n * 2 ^ (23 - Nat.log2 n) ≤ 2 ^ (Nat.log2 n + 1) * 2 ^ (23 - Nat.log2 n) :=
            Nat.mul_le_mul_right _ Nat.lt_log2_self.le
        _ = 2 ^ 24 := by rw [← pow_add]; congr 1; omega
  · exact ⟨0, by omega, by omega, by omega⟩

/-- Every natural number up to 2^24 is a finite magnitude's value. -/
theorem exists_magValue_eq {n : Nat} (hn : n ≤ 2 ^ 24) : ∃ y < infMag, magValue y = n := by
  suffices h : ∃ y, magValue y = n by
    obtain ⟨y, hy⟩ := h
    refine ⟨y, magValue_strictMono.lt_iff_lt.1 ?_, hy⟩
    rw [hy, magValue_infMag]
    exact_mod_cast hn.trans_lt (by norm_num)
  rcases Nat.eq_zero_or_pos n with rfl | hpos
  · exact ⟨0, by simp⟩
  obtain ⟨k, hk, hlo, hhi⟩ := exists_normalizing_shift hpos hn
  refine ⟨(149 - k) * 2 ^ 23 + n * 2 ^ k, ?_⟩
  rw [magValue_pack hhi (.inr hlo), show ((149 - k : Nat) : Int) - 149 = -(k : Int) by omega, zpow_neg, zpow_natCast]
  push_cast
  field_simp

/-- An integer of magnitude at most 2^24 is exact (40_correlation.md R127). -/
theorem ofInt_exact {v : Int} (h : v.natAbs ≤ 2 ^ 24) : isFinite (ofInt v) = true ∧ toRat (ofInt v) = v := by
  obtain ⟨y, hy, hv⟩ := exists_magValue_eq h
  have hround : roundMag v.natAbs 1 = y := by
    rcases Nat.eq_zero_or_pos v.natAbs with h0 | hpos
    · rw [h0, Nat.cast_zero, ← magValue_zero] at hv
      rw [h0, magValue_strictMono.injective hv]
      rfl
    · exact roundMag_eq_of_magValue hpos one_pos hy (by rw [hv, Nat.cast_one, div_one])
  rw [ofInt, hround]
  refine ⟨isFinite_withSign _ hy, ?_⟩
  rw [toRat_withSign _ (hy.trans (by decide)), hv, Nat.cast_natAbs, Int.cast_abs]
  rcases lt_or_ge v 0 with hneg | hnonneg
  · rw [if_pos (by simpa using hneg), abs_of_neg (by exact_mod_cast hneg), neg_neg]
  · rw [if_neg (by simpa using hnonneg), abs_of_nonneg (by exact_mod_cast hnonneg)]

end Sys2Proof.F32

namespace Sys2Proof.Machine

/-! Partial sums. -/

theorem runningSum_bounds {f : Nat → Int} {lo hi : Int} (hf : ∀ j, lo ≤ f j ∧ f j ≤ hi) (k : Nat) :
    k * lo ≤ runningSum f k ∧ runningSum f k ≤ k * hi := by
  induction k with
  | zero => simp [runningSum]
  | succ k ih =>
    obtain ⟨hlo, hhi⟩ := hf k
    rw [runningSum]
    push_cast
    constructor <;> linarith

/-- The least product is `-128 * 127`, the greatest `(-128) * (-128)` (40_correlation.md R127). -/
theorem byte_mul_bounds (x y : Byte) : -16256 ≤ x.toInt * y.toInt ∧ x.toInt * y.toInt ≤ 16384 := by
  have hx1 : -128 ≤ x.toInt := x.le_toInt
  have hx2 : x.toInt ≤ 127 := Int.le_of_lt_add_one x.toInt_lt
  have hy1 : -128 ≤ y.toInt := y.le_toInt
  have hy2 : y.toInt ≤ 127 := Int.le_of_lt_add_one y.toInt_lt
  rcases le_total 0 x.toInt with h | h
  · constructor <;> nlinarith
  · constructor <;> nlinarith

theorem corrTerm_bounds (m : Mode) (a b : Nat → Byte) (n i j : Nat) :
    -16256 ≤ corrTerm m (fun j => (a j).toInt) (fun j => (b j).toInt) n i j ∧
      corrTerm m (fun j => (a j).toInt) (fun j => (b j).toInt) n i j ≤ 16384 := by
  unfold corrTerm
  dsimp only
  split
  · exact byte_mul_bounds _ _
  · decide

/-- Settles O19: 1024 products of two bytes, and the integers of 24 bits. -/
theorem sumsAreExact : Obligations.SumsAreExact := by
  unfold Obligations.SumsAreExact
  refine ⟨fun m a b n i k hn hk => ?_, fun v h1 h2 => F32.ofInt_exact (by omega)⟩
  have h := runningSum_bounds (corrTerm_bounds m a b n i) k
  omega

end Sys2Proof.Machine
end


section
/-! PROOF. O11, O23 to O25: the PEAK command, its two scans and its stage (41_peak.md R141 to R145). -/

namespace Sys2Proof.Machine

/-! The scans. -/

theorem scanMax_ge (f : Nat → Int) {k i : Nat} (hi : i ≤ k) : f i ≤ (scanMax f k).1 := by
  induction k with
  | zero => rw [Nat.le_zero.1 hi, scanMax]
  | succ k ih =>
    rw [scanMax]
    rcases Nat.le_or_eq_of_le_succ hi with hk | rfl
    · split
      case isTrue hgt => exact (ih hk).trans hgt.le
      case isFalse => exact ih hk
    · split
      case isTrue => exact le_rfl
      case isFalse hle => exact not_lt.1 hle

/-- Only a greater value moves the candidate: those before its index are smaller (41_peak.md R142, R144). -/
theorem scanMax_gt_of_lt_index (f : Nat → Int) {k i : Nat} (hi : i < (scanMax f k).2) : f i < (scanMax f k).1 := by
  induction k with
  | zero => exact absurd hi (Nat.not_lt_zero i)
  | succ k ih =>
    rw [scanMax] at hi ⊢
    split at hi
    case isTrue hgt =>
      rw [if_pos hgt]
      exact (scanMax_ge f (Nat.le_of_lt_succ hi)).trans_lt hgt
    case isFalse hle =>
      rw [if_neg hle]
      exact ih hi

/-- The magnitude scan's initial candidate 0 makes no difference: it is the signed scan of the magnitudes
(41_peak.md R143, R145). -/
theorem scanMax_natAbs (f : Nat → Int) (k : Nat) :
    scanMax (fun i => ((f i).natAbs : Int)) k = (((scanAbs f (k + 1)).1 : Int), (scanAbs f (k + 1)).2) := by
  induction k with
  | zero =>
    rw [scanMax, scanAbs, scanAbs]
    split
    case isTrue => rfl
    case isFalse h0 => rw [Nat.eq_zero_of_not_pos h0, Nat.cast_zero]
  | succ k ih =>
    rw [scanMax, ih]
    conv_rhs => rw [scanAbs]
    rw [apply_ite fun p : Nat × Nat => ((p.1 : Int), p.2)]
    exact if_congr Nat.cast_lt rfl rfl

/-- Settles O23: at most k, its cell's value, the bound, and the first of its size. -/
theorem signedScanFindsFirstMaximum : Obligations.SignedScanFindsFirstMaximum := by
  unfold Obligations.SignedScanFindsFirstMaximum
  exact fun f k => ⟨scanMax_index_le f k, scanMax_value f k, fun _ => scanMax_ge f, fun _ => scanMax_gt_of_lt_index f⟩

/-- Settles O24: O23 for the magnitudes; the greatest one is 0 exactly when all are. -/
theorem magnitudeScanFindsFirstMaximum : Obligations.MagnitudeScanFindsFirstMaximum := by
  unfold Obligations.MagnitudeScanFindsFirstMaximum
  intro f m hm
  obtain ⟨k, rfl⟩ := Nat.exists_eq_add_of_le' hm
  obtain ⟨hidx, hval, hbound, hfirst⟩ := signedScanFindsFirstMaximum (fun i => ((f i).natAbs : Int)) k
  rw [scanMax_natAbs] at hidx hval hbound hfirst
  simp only [Nat.cast_inj, Nat.cast_le, Nat.cast_lt] at hval hbound hfirst
  have hlt := Nat.lt_succ_of_le hidx
  refine ⟨hlt, hval, fun i hi => hbound i (Nat.le_of_lt_succ hi), hfirst, fun h0 i hi => ?_, fun h0 => ?_⟩
  · exact Int.natAbs_eq_zero.1 (Nat.le_zero.1 (h0 ▸ hbound i (Nat.le_of_lt_succ hi)))
  · rw [← hval, h0 _ hlt, Int.natAbs_zero]

/-! The command and its stage. -/

/-- Settles O11: with its check passed, the issue is its named effect. -/
theorem peakIssueEffect : Obligations.PeakIssueEffect := by
  unfold Obligations.PeakIssueEffect
  exact fun s hb hr => ⟨State.issue_accepted hb (checkResult_eq_none.2 hr), rfl⟩

/-- Settles O25: the scans' results fit the registers, and what follows the stage changes the status alone. -/
theorem peakStageEffect : Obligations.PeakStageEffect := by
  unfold Obligations.PeakStageEffect
  intro s hi hs
  have h := State.inv_iff_invParts.1 hi
  rw [State.engineStep_peak hs]
  have hram := State.SameRams.refl s
  rcases s.completePeak_cases with ⟨hc, hx⟩ | ⟨hc, hx⟩ <;> rw [hx, hc]
  · exact ⟨s.peakWrites_maxVal, h.peakWrites_maxIdx, s.peakWrites_absVal, h.peakWrites_absIdx, hram, fun _ => rfl,
      nofun, rfl, rfl, rfl, rfl, rfl, rfl, rfl, rfl, rfl⟩
  · exact ⟨s.peakWrites_maxVal, h.peakWrites_maxIdx, s.peakWrites_absVal, h.peakWrites_absIdx, hram, nofun,
      fun _ => rfl, rfl, rfl, rfl, rfl, rfl, rfl, rfl, rfl, rfl⟩

end Sys2Proof.Machine
end


section
/-! PROOF. Binary32 patterns by sign and magnitude: the sign flip, the ordered comparison as that of the exact values, and what
multiplication and division by a positive finite number have in common, `Scaling` (00_scope.md R13; 42_angle.md R165, R166,
R172). -/

namespace Sys2Proof.F32

/-! A pattern is its sign and its magnitude. -/

theorem mag_lt (x : Word) : mag x < 2 ^ 31 := by
  rw [Config.mag_eq]
  exact Nat.mod_lt _ (by decide)

theorem eq_of_sign_mag {x y : Word} (hs : sign x = sign y) (hm : mag x = mag y) : x = y := by
  rw [Config.sign_eq, Config.sign_eq, decide_eq_decide] at hs
  rw [Config.mag_eq, Config.mag_eq] at hm
  exact BitVec.eq_of_toNat_eq (by omega)

theorem withSign_sign_mag (x : Word) : withSign (sign x) (mag x) = x :=
  eq_of_sign_mag (sign_withSign _ (mag_lt x)) (mag_withSign _ (mag_lt x))

theorem isNan_iff {x : Word} : isNan x = true ↔ infMag < mag x := by
  have := mag_lt x
  simp only [isNan, infMag, expo_eq, frac_eq, Bool.and_eq_true, beq_iff_eq, bne_iff_ne]
  omega

theorem isNan_eq_false_iff {x : Word} : isNan x = false ↔ mag x ≤ infMag := by
  rw [← Bool.not_eq_true, isNan_iff, not_lt]

theorem isInf_iff {x : Word} : isInf x = true ↔ mag x = infMag := by
  simp only [isInf, infMag, expo_eq, frac_eq, Bool.and_eq_true, beq_iff_eq]
  omega

theorem isFinite_iff {x : Word} : isFinite x = true ↔ mag x < infMag := by
  have := mag_lt x
  simp only [isFinite, infMag, expo_eq, bne_iff_ne]
  omega

theorem isZero_iff {x : Word} : isZero x = true ↔ mag x = 0 := beq_iff_eq

theorem isNan_withSign (b : Bool) {m : Nat} (hm : m ≤ infMag) : isNan (withSign b m) = false := by
  rwa [isNan_eq_false_iff, mag_withSign b (hm.trans_lt (by decide))]

/-! Sign flips. -/

@[simp] theorem sign_neg (x : Word) : sign (neg x) = !sign x := by simp [sign, neg]

@[simp] theorem mag_neg (x : Word) : mag (neg x) = mag x := by
  rw [mag, neg, BitVec.extractLsb'_xor, show (0x80000000 : Word).extractLsb' 0 31 = 0#31 by decide, BitVec.xor_zero, mag]

@[simp] theorem isNan_neg (x : Word) : isNan (neg x) = isNan x := by
  rw [Bool.eq_iff_iff, isNan_iff, isNan_iff, mag_neg]
@[simp] theorem isInf_neg (x : Word) : isInf (neg x) = isInf x := by
  rw [Bool.eq_iff_iff, isInf_iff, isInf_iff, mag_neg]
@[simp] theorem mant_neg (x : Word) : mant (neg x) = mant x := by simp only [mant, expo_eq, frac_eq, mag_neg]
@[simp] theorem unitExp_neg (x : Word) : unitExp (neg x) = unitExp x := by simp only [unitExp, expo_eq, mag_neg]

@[simp] theorem key_neg (x : Word) : key (neg x) = -key x := by
  rw [key, key, sign_neg, mag_neg]
  cases sign x <;> simp

theorem neg_withSign (b : Bool) {m : Nat} (hm : m < 2 ^ 31) : neg (withSign b m) = withSign (!b) m := by
  apply eq_of_sign_mag
  · rw [sign_neg, sign_withSign _ hm, sign_withSign _ hm]
  · rw [mag_neg, mag_withSign _ hm, mag_withSign _ hm]

/-! The ordered comparison. -/

theorem lt_iff {x y : Word} : lt x y = true ↔ isNan x = false ∧ isNan y = false ∧ key x < key y := by
  simp [lt, and_assoc]

theorem le_iff {x y : Word} : le x y = true ↔ isNan x = false ∧ isNan y = false ∧ key x ≤ key y := by
  simp [le, and_assoc]

theorem lt_neg_neg (x y : Word) : lt (neg x) (neg y) = lt y x := by
  rw [Bool.eq_iff_iff, lt_iff, lt_iff, isNan_neg, isNan_neg, key_neg, key_neg, neg_lt_neg_iff, and_left_comm]

/-- A finite pattern's key is strictly between those of the infinities. -/
theorem key_bounds_of_isFinite {x : Word} (h : isFinite x = true) : -(infMag : Int) < key x ∧ key x < infMag := by
  rw [isFinite_iff] at h
  rw [key]
  split <;> omega

theorem key_nonneg {x : Word} (h : sign x = false) : 0 ≤ key x := by simp [key, h]

/-- The value at a key, negative keys being those of the negative patterns. -/
def keyValue (k : Int) : ℚ := (k.sign : ℚ) * magValue k.natAbs

theorem keyValue_natCast (m : Nat) : keyValue m = magValue m := by
  rcases Nat.eq_zero_or_pos m with rfl | hm
  · simp [keyValue]
  · simp [keyValue, Int.sign_eq_one_of_pos (Int.natCast_pos.2 hm)]

theorem keyValue_neg (k : Int) : keyValue (-k) = -keyValue k := by simp [keyValue]

theorem keyValue_strictMono : StrictMono keyValue := by
  refine strictMono_of_odd_strictMonoOn_nonneg keyValue_neg fun a ha b hb hab => ?_
  obtain ⟨m, rfl⟩ := Int.eq_ofNat_of_zero_le ha
  obtain ⟨n, rfl⟩ := Int.eq_ofNat_of_zero_le hb
  rw [keyValue_natCast, keyValue_natCast]
  exact magValue_strictMono (Int.ofNat_lt.1 hab)

theorem toRat_eq_keyValue (x : Word) : toRat x = keyValue (key x) := by
  rw [toRat_eq, key]
  split
  case isTrue => rw [keyValue_neg, keyValue_natCast]
  case isFalse => rw [keyValue_natCast]

section
variable {x y : Word} (hx : isFinite x = true)
include hx

theorem lt_iff_toRat_lt (hy : isFinite y = true) : lt x y = true ↔ toRat x < toRat y := by
  rw [toRat_eq_keyValue, toRat_eq_keyValue, keyValue_strictMono.lt_iff_lt, lt_iff]
  simp [not_isNan_isInf_of_isFinite hx, not_isNan_isInf_of_isFinite hy]

theorem le_iff_toRat_le (hy : isFinite y = true) : le x y = true ↔ toRat x ≤ toRat y := by
  rw [toRat_eq_keyValue, toRat_eq_keyValue, keyValue_strictMono.le_iff_le, le_iff]
  simp [not_isNan_isInf_of_isFinite hx, not_isNan_isInf_of_isFinite hy]

/-- Every finite pattern is above minus infinity and below plus infinity. -/
theorem infinities_outermost :
    lt 0xFF800000 x = true ∧ lt x 0x7F800000 = true ∧ le 0x7F800000 x = false ∧ le x 0xFF800000 = false := by
  obtain ⟨hn, -⟩ := not_isNan_isInf_of_isFinite hx
  obtain ⟨hlo, hhi⟩ := key_bounds_of_isFinite hx
  exact ⟨lt_iff.2 ⟨by decide, hn, hlo⟩, lt_iff.2 ⟨hn, by decide, hhi⟩,
    Bool.eq_false_iff.2 fun h => absurd (le_iff.1 h).2.2 hhi.not_ge,
    Bool.eq_false_iff.2 fun h => absurd (le_iff.1 h).2.2 hlo.not_ge⟩

end

theorem toRat_one : toRat one = 1 := by
  have hmant : mant one = 2 ^ 23 := by decide
  have hunit : unitExp one = -23 := by decide
  have hsign : sign one = false := by decide
  norm_num [toRat, hmant, hunit, hsign]

theorem toRat_neg (x : Word) : toRat (neg x) = -toRat x := by
  rw [toRat_eq_keyValue, key_neg, keyValue_neg, toRat_eq_keyValue]

theorem toRat_negOne : toRat negOne = -1 := (toRat_neg one).trans (congrArg _ toRat_one)

/-! Scalings: what multiplication and division by a positive finite number have in common. -/

/-- A function on patterns that answers no NaN for a number, keeps its sign, commutes with the sign flip, and keeps an infinity
and a zero (42_angle.md R172). -/
structure Scaling (f : Word → Word) : Prop where
  not_isNan : ∀ {x}, isNan x = false → isNan (f x) = false
  sign_eq : ∀ {x}, isNan x = false → sign (f x) = sign x
  map_neg : ∀ {x}, isNan x = false → f (neg x) = neg (f x)
  fixes : ∀ {x}, isInf x = true ∨ isZero x = true → f x = x

theorem Scaling.comp {f g : Word → Word} (hg : Scaling g) (hf : Scaling f) : Scaling (fun x => g (f x)) where
  not_isNan h := hg.not_isNan (hf.not_isNan h)
  sign_eq h := (hg.sign_eq (hf.not_isNan h)).trans (hf.sign_eq h)
  map_neg h := by rw [hf.map_neg h, hg.map_neg (hf.not_isNan h)]
  fixes h := by rw [hf.fixes h, hg.fixes h]

theorem not_isNan_of_isInf_or_isZero {x : Word} (h : isInf x = true ∨ isZero x = true) : isNan x = false := by
  rw [isInf_iff, isZero_iff] at h
  rw [isNan_eq_false_iff]
  omega

theorem not_isInf_of_isZero {x : Word} (h : isZero x = true) : isInf x = false := by
  rw [← Bool.not_eq_true, isInf_iff, isZero_iff.1 h]
  decide

/-- A function that gives an infinity for an infinity, and else a magnitude `r` that is that of a zero for a zero, each with the
operand's sign, is a scaling. -/
theorem Scaling.of_magnitude {f : Word → Word} {r : Word → Nat}
    (hf : ∀ x, isNan x = false → f x = withSign (sign x) (if isInf x then infMag else r x))
    (hle : ∀ x, r x ≤ infMag) (hneg : ∀ x, r (neg x) = r x) (hzero : ∀ x, isZero x = true → r x = 0) : Scaling f := by
  have hmag (x : Word) : (if isInf x then infMag else r x) ≤ infMag := by
    split
    · exact le_rfl
    · exact hle x
  have hlt (x : Word) := (hmag x).trans_lt (by decide : infMag < 2 ^ 31)
  refine ⟨fun {x} h => ?_, fun {x} h => ?_, fun {x} h => ?_, fun {x} h => ?_⟩
  · rw [hf x h, isNan_withSign _ (hmag x)]
  · rw [hf x h, sign_withSign _ (hlt x)]
  · rw [hf x h, hf _ ((isNan_neg x).trans h), isInf_neg, hneg, sign_neg, neg_withSign _ (hlt x)]
  · have hx : (if isInf x then infMag else r x) = mag x := by
      rcases h with h | h
      · rw [if_pos h, isInf_iff.1 h]
      · rw [if_neg (by simp [not_isInf_of_isZero h]), hzero x h, isZero_iff.1 h]
    rw [hf x (not_isNan_of_isInf_or_isZero h), hx, withSign_sign_mag]

/-! Rounded magnitudes. -/

theorem roundMag_le (n d : Nat) : roundMag n d ≤ infMag := by
  rcases Nat.eq_zero_or_pos n with rfl | hn
  · exact Nat.zero_le _
  · exact roundMag_le_infMag hn

theorem roundScaled_le (n d : Nat) (e : Int) : roundScaled n d e ≤ infMag := roundMag_le _ _

theorem roundScaled_zero (d : Nat) (e : Int) : roundScaled 0 d e = 0 := by
  rw [roundScaled, Nat.zero_mul, roundMag, if_pos rfl]

theorem mant_of_isZero {x : Word} (h : isZero x = true) : mant x = 0 := by
  have hm : mag x = 0 := isZero_iff.1 h
  simp [mant, expo_eq, frac_eq, hm]

/-! Multiplication and division by a positive finite number. -/

/-- 42_angle.md R162: what a positive finite pattern is, and is not. -/
theorem positiveFinite_iff {y : Word} :
    Machine.positiveFinite y = true ↔ sign y = false ∧ isFinite y = true ∧ isZero y = false := by
  have hz : y = 0 ↔ sign y = false ∧ mag y = 0 :=
    ⟨fun h => h ▸ ⟨rfl, rfl⟩, fun ⟨hs, hm⟩ => eq_of_sign_mag hs hm⟩
  simp only [Machine.positiveFinite, isFinite, isZero, Bool.and_eq_true, Bool.not_eq_true', bne_iff_ne, beq_eq_false_iff_ne,
    ne_eq, hz]
  tauto

section
variable {y : Word} (hy : Machine.positiveFinite y = true)
include hy

theorem mul_scaling : Scaling (fun x => mul x y) := by
  obtain ⟨hs, hf, hz⟩ := positiveFinite_iff.1 hy
  obtain ⟨hn, hi⟩ := not_isNan_isInf_of_isFinite hf
  refine .of_magnitude (r := fun x => roundScaled (mant x * mant y) 1 (unitExp x + unitExp y)) (fun x hx => ?_)
    (fun x => roundScaled_le _ _ _) (fun x => by simp) (fun x hx => by rw [mant_of_isZero hx, Nat.zero_mul, roundScaled_zero])
  cases hxi : isInf x with
  | true =>
    have hxz : isZero x = false := Bool.eq_false_iff.2 fun h => absurd hxi (by simp [not_isInf_of_isZero h])
    simp [mul, hx, hn, hxi, hxz, hz, hs]
  | false => simp [mul, hx, hn, hi, hxi, hs]

theorem div_scaling : Scaling (fun x => div x y) := by
  obtain ⟨hs, hf, hz⟩ := positiveFinite_iff.1 hy
  obtain ⟨hn, hi⟩ := not_isNan_isInf_of_isFinite hf
  refine .of_magnitude (r := fun x => roundScaled (mant x) (mant y) (unitExp x - unitExp y)) (fun x hx => ?_)
    (fun x => roundScaled_le _ _ _) (fun x => by simp) (fun x hx => by rw [mant_of_isZero hx, roundScaled_zero])
  cases hxi : isInf x with
  | true => simp [div, hx, hn, hi, hxi, hs]
  | false => simp [div, hx, hn, hi, hxi, hz, hs]

end

/-! Integers. -/

theorem isNan_ofInt (k : Int) : isNan (ofInt k) = false := isNan_withSign _ (roundMag_le _ _)

theorem sign_ofInt (k : Int) : sign (ofInt k) = decide (k < 0) := sign_withSign _ ((roundMag_le _ _).trans_lt (by decide))

theorem ofInt_neg {k : Int} (hk : k ≠ 0) : ofInt (-k) = neg (ofInt k) := by
  have hs : decide (-k < 0) = !decide (k < 0) := by
    rw [← decide_not, decide_eq_decide]
    omega
  rw [ofInt, ofInt, neg_withSign _ ((roundMag_le _ _).trans_lt (by decide)), Int.natAbs_neg, hs]

end Sys2Proof.F32
end


section
/-! PROOF. O29, O30 and O34: the arithmetic from the lag to the clamped argument (42_angle.md R165, R166, R172). The argument is a
`Scaling` of the lag's binary32, so that it is no NaN, has the lag's sign, and is odd in the lag. -/

namespace Sys2Proof.Machine

/-! From the lag to the argument. -/

section
variable {fs c d : Word} (hfs : positiveFinite fs = true)
include hfs

theorem delayOf_not_isNan (lag : Int) : F32.isNan (delayOf lag fs) = false :=
  (F32.div_scaling hfs).not_isNan (F32.isNan_ofInt lag)

theorem delayOf_neg {lag : Int} (h : lag ≠ 0) : delayOf (-lag) fs = F32.neg (delayOf lag fs) := by
  rw [delayOf, F32.ofInt_neg h]
  exact (F32.div_scaling hfs).map_neg (F32.isNan_ofInt lag)

variable (hc : positiveFinite c = true) (hd : positiveFinite d = true)
include hc hd

/-- The argument as a function of the lag's binary32 is a scaling (42_angle.md R165). -/
theorem argOf_scaling : F32.Scaling (fun x => argOf (F32.div x fs) c d) :=
  (F32.div_scaling hd).comp ((F32.mul_scaling hc).comp (F32.div_scaling hfs))

theorem argOf_delayOf_not_isNan (lag : Int) : F32.isNan (argOf (delayOf lag fs) c d) = false :=
  (argOf_scaling hfs hc hd).not_isNan (F32.isNan_ofInt lag)

theorem argOf_delayOf_sign (lag : Int) : F32.sign (argOf (delayOf lag fs) c d) = decide (lag < 0) :=
  ((argOf_scaling hfs hc hd).sign_eq (F32.isNan_ofInt lag)).trans (F32.sign_ofInt lag)

theorem argOf_delayOf_neg {lag : Int} (h : lag ≠ 0) : argOf (delayOf (-lag) fs) c d = F32.neg (argOf (delayOf lag fs) c d) := by
  rw [delayOf, F32.ofInt_neg h]
  exact (argOf_scaling hfs hc hd).map_neg (F32.isNan_ofInt lag)

end

/-- Settles O29: each operation on the way to the argument is a scaling. -/
theorem validGeometryGivesNoNaN : Obligations.ValidGeometryGivesNoNaN := by
  unfold Obligations.ValidGeometryGivesNoNaN
  refine ⟨fun lag fs c d hfs hc hd => ?_, fun x y hx hy => ⟨(F32.mul_scaling hy).fixes hx, (F32.div_scaling hy).fixes hx⟩⟩
  have htd := delayOf_not_isNan hfs lag
  exact ⟨htd, (F32.mul_scaling hc).not_isNan htd, argOf_delayOf_not_isNan hfs hc hd lag⟩

/-! The clamp. -/

theorem clampArg_above {a : Word} (h : F32.lt F32.one a = true) : clampArg a = (F32.one, true) := by
  rw [clampArg, if_pos h]

/-- No argument is on both sides of the range. -/
theorem not_above_of_below {a : Word} (h : F32.lt a F32.negOne = true) : ¬ F32.lt F32.one a = true := by
  intro h'
  obtain ⟨-, -, hlt⟩ := F32.lt_iff.1 h
  obtain ⟨-, -, hgt⟩ := F32.lt_iff.1 h'
  exact absurd (hgt.trans hlt) (by decide)

theorem clampArg_below {a : Word} (h : F32.lt a F32.negOne = true) : clampArg a = (F32.negOne, true) := by
  rw [clampArg, if_neg (not_above_of_below h), if_pos h]

theorem clampArg_inside {a : Word} (h1 : ¬ F32.lt F32.one a = true) (h2 : ¬ F32.lt a F32.negOne = true) :
    clampArg a = (a, false) := by
  rw [clampArg, if_neg h1, if_neg h2]

theorem clampArg_saturated_iff {a : Word} :
    (clampArg a).2 = true ↔ F32.lt F32.one a = true ∨ F32.lt a F32.negOne = true := by
  by_cases h1 : F32.lt F32.one a = true
  · simp [clampArg_above h1, h1]
  by_cases h2 : F32.lt a F32.negOne = true
  · simp [clampArg_below h2, h2]
  · simp [clampArg_inside h1 h2, h1, h2]

theorem clampArg_of_not_saturated {a : Word} (h : (clampArg a).2 = false) : (clampArg a).1 = a := by
  rw [← Bool.not_eq_true, clampArg_saturated_iff, not_or] at h
  rw [clampArg_inside h.1 h.2]

/-- The clamp of a number is in range. -/
theorem clampArg_unitRange {a : Word} (ha : F32.isNan a = false) : F32.UnitRange (clampArg a).1 := by
  by_cases h1 : F32.lt F32.one a = true
  · rw [clampArg_above h1]
    decide
  by_cases h2 : F32.lt a F32.negOne = true
  · rw [clampArg_below h2]
    decide
  rw [clampArg_inside h1 h2]
  rw [F32.lt_iff] at h1 h2
  have hone : F32.isNan F32.one = false := by decide
  have hneg : F32.isNan F32.negOne = false := by decide
  exact ⟨F32.le_iff.2 ⟨hneg, ha, not_lt.1 fun h => h2 ⟨ha, hneg, h⟩⟩,
    F32.le_iff.2 ⟨ha, hone, not_lt.1 fun h => h1 ⟨hone, ha, h⟩⟩⟩

theorem clampArg_neg (a : Word) : clampArg (F32.neg a) = (F32.neg (clampArg a).1, (clampArg a).2) := by
  have above : F32.lt F32.one (F32.neg a) = F32.lt a F32.negOne := F32.lt_neg_neg F32.negOne a
  have below : F32.lt (F32.neg a) F32.negOne = F32.lt F32.one a := F32.lt_neg_neg a F32.one
  by_cases h1 : F32.lt F32.one a = true
  · rw [clampArg_above h1, clampArg_below (below.trans h1)]
    rfl
  by_cases h2 : F32.lt a F32.negOne = true
  · rw [clampArg_below h2, clampArg_above (above.trans h2)]
    rfl
  · rw [clampArg_inside h1 h2, clampArg_inside (above ▸ h2) (below ▸ h1)]

/-- The clamp keeps an argument's sign where that is plus (42_angle.md R168). -/
theorem clampArg_nonneg {a : Word} (ha : F32.isNan a = false) (hs : F32.sign a = false) : F32.le 0 (clampArg a).1 = true := by
  have hkey := F32.key_nonneg hs
  by_cases h1 : F32.lt F32.one a = true
  · rw [clampArg_above h1]
    decide
  have h2 : ¬ F32.lt a F32.negOne = true := fun h => absurd (hkey.trans_lt (F32.lt_iff.1 h).2.2) (by decide)
  rw [clampArg_inside h1 h2]
  exact F32.le_iff.2 ⟨by decide, ha, hkey⟩

/-- Settles O30: the clamp by its three cases, and the comparison as that of the keys, in which the values grow strictly. -/
theorem clampIntoUnitRange : Obligations.ClampIntoUnitRange := by
  unfold Obligations.ClampIntoUnitRange
  refine ⟨fun a ha => ⟨clampArg_unitRange ha, clampArg_saturated_iff, clampArg_of_not_saturated, fun h => ?_, fun h => ?_⟩,
    F32.toRat_one, F32.toRat_negOne, fun x y hx hy => ⟨F32.lt_iff_toRat_lt hx hy, F32.le_iff_toRat_le hx hy⟩,
    fun x hx => F32.infinities_outermost hx, by decide, by decide, fun x hx => ?_, fun x y h => ?_⟩
  · rw [clampArg_above h]
    rfl
  · rw [clampArg_below h]
    rfl
  · simp [F32.lt, F32.le, hx]
  · rcases h with h | h <;> simp [F32.lt, F32.le, h]

/-- Settles O34: the argument is odd in the lag, and so are the clamp and ASIN_DEG (42_angle.md R170 P2). -/
theorem oppositeLagOppositeBearing : Obligations.OppositeLagOppositeBearing := by
  unfold Obligations.OppositeLagOppositeBearing
  intro lag fs c d h hfs hc hd
  have harg := argOf_delayOf_neg hfs hc hd h
  have hclamp := clampArg_neg (argOf (delayOf lag fs) c d)
  rw [← harg] at hclamp
  dsimp only
  rw [hclamp]
  exact ⟨delayOf_neg hfs h, harg, rfl, rfl, Config.asinDeg.odd _ (clampArg_unitRange (argOf_delayOf_not_isNan hfs hc hd lag))⟩

end Sys2Proof.Machine
end


section
/-! PROOF. O10, O26, O31 to O33 and O35: the issue of ANGLE and ANGLE.I, and the ANGLE stage (42_angle.md R163 to R175). -/

namespace Sys2Proof.Machine

/-! The issue. -/

/-- `w[26:16]` of the ANGLE.I word is the immediate's low 11 bits (30_encoding.md R100; 42_angle.md R163). -/
theorem encode_angleI_index (k : Nat) : (encode (.angleI k)).extractLsb' 16 11 = BitVec.ofNat 11 k :=
  calc (encode (.angleI k)).extractLsb' 16 11
    _ = (immField (encode (.angleI k))).setWidth 11 := (BitVec.setWidth_extractLsb'_of_le (by decide)).symm
    _ = (BitVec.ofNat 16 k).setWidth 11 := congrArg _ (Laws.ReservedBits.immField_commandWord _ _ _)
    _ = BitVec.ofNat 11 k := BitVec.setWidth_ofNat_of_le (by decide) k

/-- Settles O10: with its checks passed, each issue is `startAngle` with the word's index. -/
theorem angleIssueEffect : Obligations.AngleIssueEffect := by
  unfold Obligations.AngleIssueEffect
  intro s hb hg
  have hgeo := checkGeometry_eq_none.2 hg
  refine ⟨fun hp => State.issue_accepted hb (firstFailure_eq_none.2 ⟨checkPeak_eq_none.2 hp, hgeo⟩), fun k _ hk => ?_,
    fun _ _ => rfl⟩
  dsimp only
  rw [encode_angleI_index]
  exact State.issue_accepted hb (firstFailure_eq_none.2 ⟨checkIndex_eq_none.2 hk, hgeo⟩)

/-! The stage. -/

/-- The lag of the ANGLE stage (42_angle.md R164). -/
def State.stageLag (s : State) : Int := s.lagOf s.angleIndex.toNat

/-- The argument of the ANGLE stage before the clamp (42_angle.md R165). -/
def State.stageArg (s : State) : Word := argOf (delayOf s.stageLag s.cfg.fs) s.cfg.c s.cfg.d

section
variable (s : State)

@[simp] theorem State.completeAngle_idx : s.completeAngle.angle.idx = s.angleIndex := rfl
@[simp] theorem State.completeAngle_lag : s.completeAngle.angle.lag = BitVec.ofInt 32 s.stageLag := rfl
@[simp] theorem State.completeAngle_argRaw : s.completeAngle.angle.argRaw = s.stageArg := rfl
@[simp] theorem State.completeAngle_sat : s.completeAngle.status.sat = (clampArg s.stageArg).2 := rfl

theorem State.completeAngle_direct (h : s.eng.amode = false) :
    s.completeAngle.angle.angle = F32.neg (Config.asinDeg.fn (clampArg s.stageArg).1) := if_neg (by simp [h])

theorem State.completeAngle_lut (h : s.eng.amode = true) :
    s.completeAngle.angle.angle = s.readLut s.angleIndex.toNat := if_pos h

end

theorem State.geometryValid_iff {s : State} : s.geometryValid = true ↔
    positiveFinite s.cfg.fs = true ∧ positiveFinite s.cfg.c = true ∧ positiveFinite s.cfg.d = true := by
  simp [State.geometryValid, and_assoc]

/-- A lag between the extreme ones fits LAG (42_angle.md R164). -/
theorem State.InvParts.stageLag_bounds {s : State} (h : s.InvParts) (hs : s.status.stage = .angle) :
    -((s.n : Int) - 1) ≤ s.stageLag ∧ s.stageLag ≤ (s.n : Int) - 1 ∧ (BitVec.ofInt 32 s.stageLag).toInt = s.stageLag := by
  have hidx := h.stage.angle hs
  obtain ⟨h1, h2, h3⟩ := h.n_limits
  have hlo : -((s.n : Int) - 1) ≤ s.stageLag := by rw [State.stageLag, State.lagOf]; omega
  have hhi : s.stageLag ≤ (s.n : Int) - 1 := by rw [State.stageLag, State.lagOf]; omega
  refine ⟨hlo, hhi, ?_⟩
  rw [BitVec.toInt_ofInt]
  exact Int.bmod_eq_of_le (by omega) (by omega)

/-- Settles O26: the registers by the stage's own equations, LAG as an integer from the invariant. -/
theorem angleStageEffect : Obligations.AngleStageEffect := by
  unfold Obligations.AngleStageEffect
  intro s hi hs
  obtain ⟨hlo, hhi, hlag⟩ := (State.inv_iff_invParts.1 hi).stageLag_bounds hs
  rw [State.engineStep_angle hs]
  dsimp only
  rw [State.completeAngle_lag, hlag]
  refine ⟨?_, rfl, hlo, hhi, rfl, rfl, rfl, s.completeAngle_direct, s.completeAngle_lut, rfl, State.SameRams.refl s,
    rfl, rfl, rfl, rfl, rfl, rfl, rfl, rfl, rfl⟩
  rw [State.completeAngle_idx, State.angleIndex]
  cases s.eng.src <;> cases s.eng.sel <;> rfl

/-- Settles O31: a scaling keeps the zero the lag becomes. -/
theorem zeroLagGivesNegativeZero : Obligations.ZeroLagGivesNegativeZero := by
  unfold Obligations.ZeroLagGivesNegativeZero
  intro s hs hg hlag
  obtain ⟨hfs, hc, hd⟩ := State.geometryValid_iff.1 hg
  have hzero : F32.isInf (F32.ofInt 0) = true ∨ F32.isZero (F32.ofInt 0) = true := .inr (by decide)
  have hl : s.stageLag = 0 := hlag
  have htd : delayOf s.stageLag s.cfg.fs = 0 := by
    rw [hl]
    exact (F32.div_scaling hfs).fixes hzero
  have harg : s.stageArg = 0 := by
    rw [State.stageArg, hl]
    exact (argOf_scaling hfs hc hd).fixes hzero
  have hclamp : clampArg s.stageArg = (0, false) := by
    rw [harg]
    decide
  rw [State.engineStep_angle hs]
  refine ⟨congrArg (BitVec.ofInt 32) hl, htd, harg, congrArg Prod.fst hclamp, congrArg Prod.snd hclamp, fun hm => ?_⟩
  rw [s.completeAngle_direct hm, hclamp, Config.asinDeg.at_zero]
  decide

/-- Settles O32: a saturated argument is clamped to the bound of its sign, where ASIN_DEG is ±90 (42_angle.md R170 P1). -/
theorem saturatedAngleIsNinety : Obligations.SaturatedAngleIsNinety := by
  unfold Obligations.SaturatedAngleIsNinety
  intro s hs hm
  rw [State.engineStep_angle hs]
  dsimp only
  rw [s.completeAngle_direct hm, State.completeAngle_sat, State.completeAngle_argRaw]
  refine ⟨clampArg_saturated_iff, fun hsat => ?_⟩
  rcases clampArg_saturated_iff.1 hsat with h | h
  · obtain ⟨-, hn, hkey⟩ := F32.lt_iff.1 h
    have hpos : F32.key 0 < F32.key s.stageArg := lt_trans (by decide) hkey
    refine ⟨fun _ => ?_, fun h' => absurd (F32.lt_iff.1 h').2.2 hpos.not_gt, .inl (F32.lt_iff.2 ⟨by decide, hn, hpos⟩)⟩
    rw [clampArg_above h, Config.asinDeg.at_one]
    rfl
  · obtain ⟨hn, -, hkey⟩ := F32.lt_iff.1 h
    have hneg : F32.key s.stageArg < F32.key 0 := hkey.trans (by decide)
    refine ⟨fun h' => absurd (F32.lt_iff.1 h').2.2 hneg.not_gt, fun _ => ?_, .inr (F32.lt_iff.2 ⟨hn, by decide, hneg⟩)⟩
    rw [clampArg_below h, Config.asinDeg.at_negOne]
    rfl

/-- Settles O33: a positive lag's argument has the plus sign, which the clamp and, by P2 and P3 of 42_angle.md R170, ASIN_DEG
keep. -/
theorem positiveLagNegativeBearing : Obligations.PositiveLagNegativeBearing := by
  unfold Obligations.PositiveLagNegativeBearing
  intro s hs hg hm hlag
  obtain ⟨hfs, hc, hd⟩ := State.geometryValid_iff.1 hg
  have hnan : F32.isNan s.stageArg = false := argOf_delayOf_not_isNan hfs hc hd _
  have hsign : F32.sign s.stageArg = false := (argOf_delayOf_sign hfs hc hd _).trans (decide_eq_false hlag.not_gt)
  have hclamp := clampArg_nonneg hnan hsign
  have hasin := Config.asinDeg.mono 0 _ (by decide) (clampArg_unitRange hnan) hclamp
  rw [Config.asinDeg.at_zero] at hasin
  obtain ⟨-, hn, hkey⟩ := F32.le_iff.1 hasin
  rw [State.engineStep_angle hs, s.completeAngle_direct hm]
  refine ⟨hclamp, F32.le_iff.2 ⟨(F32.isNan_neg _).trans hn, by decide, ?_⟩⟩
  rw [F32.key_neg]
  exact neg_nonpos.2 hkey

/-- Settles O35: the issue is accepted, and the stage's arithmetic runs; ANGLE is P1's value at -1 (42_angle.md R170). -/
theorem workedAngleScenario : Obligations.WorkedAngleScenario := by
  unfold Obligations.WorkedAngleScenario
  refine ⟨State.reset.startAngle .imm 124, rfl, rfl, by decide, by decide, by decide, by decide, by decide, ?_, by decide⟩
  have hclamp : clampArg (State.reset.startAngle .imm 124).stageArg = (F32.negOne, true) := by decide
  rw [State.engineStep_angle rfl, State.completeAngle_direct _ rfl, hclamp, Config.asinDeg.at_negOne]
  rfl

end Sys2Proof.Machine
end

section
/-! PROOF. O15 and O16: the LOAD stage's effect (43_frame_ingest.md R198) and the AUTO_RUN start (R199). The stage's writes are
`loadWrites`; what follows them leaves the cells, the counts and the FIFO alone. -/

namespace Sys2Proof.Machine

/-! What follows the LOAD stage's writes. -/

theorem State.completeLoad_idle {s : State} (ha : s.autoRun = false) : s.completeLoad = s.loadWrites.setStage .idle :=
  if_neg (ne_true_of_eq_false ha)

theorem State.completeLoad_autoRun {s : State} (ha : s.autoRun = true) : s.completeLoad = s.loadWrites.autoRunStart := if_pos ha

theorem State.completeLoad_run {s : State} (ha : s.autoRun = true) (hg : s.geometryValid = true) :
    s.completeLoad = s.loadWrites.startRun :=
  (State.completeLoad_autoRun ha).trans (if_pos hg)

theorem State.completeLoad_refused {s : State} (ha : s.autoRun = true) (hg : s.geometryValid = false) :
    s.completeLoad = (s.loadWrites.setStage .idle).recordErr .cfg autoRunInfo :=
  (State.completeLoad_autoRun ha).trans (if_neg (ne_true_of_eq_false hg))

/-- DONE is 0 after a LOAD, which does not set it (44_control.md R217). -/
theorem State.InvParts.completeLoad_done {s : State} (h : s.InvParts) (hs : s.status.stage = .load) :
    s.completeLoad.status.done = false := by
  have hd : s.status.done = false := by
    by_contra hne
    exact absurd ((h.stage.done_idle (eq_true_of_ne_false hne)).symm.trans hs) (by decide)
  rcases s.completeLoad_cases with hx | ⟨_, hx⟩ | hx <;> rw [hx]
  exacts [hd, rfl, hd]

/-! The cells. -/

/-- Cells of B a LOAD writes hold the bytes of the frame's second half (43_frame_ingest.md R198). -/
theorem State.loadWrites_readB (s : State) (j : Nat) :
    s.loadWrites.readB j = if j < s.n ∧ s.n + j < s.ingest.fifo.length then s.ingest.fifo[s.n + j]! else s.readB j := by
  unfold State.readB
  rw [State.loadWrites_ramB, Ram.find_setFrom, List.length_take, List.length_drop, Nat.zero_add, Nat.sub_zero]
  by_cases h : j < s.n ∧ s.n + j < s.ingest.fifo.length
  · rw [if_pos h, if_pos (by omega), List.getElem?_take_of_lt h.1, List.getElem?_drop]
    simp [h.2]
  · rw [if_neg h, if_neg (by omega), State.loadWrites_env]

/-- A running LOAD has its payload in the FIFO, and moves it to the buffers in order. -/
theorem State.InvParts.loadWrites_frame {s : State} (h : s.InvParts) (hs : s.status.stage = .load) {j : Nat} (hj : j < s.n) :
    some (s.loadWrites.readA j) = s.ingest.fifo[j]? ∧ some (s.loadWrites.readB j) = s.ingest.fifo[s.n + j]? := by
  have hlen := h.stage.load hs
  have hA : j < s.ingest.fifo.length := by omega
  have hB : s.n + j < s.ingest.fifo.length := by omega
  rw [State.loadWrites_readA, State.loadWrites_readB, if_pos ⟨hj, hA⟩, if_pos ⟨hj, hB⟩]
  simp [hA, hB]

theorem State.loadWrites_kept (s : State) {j : Nat} (hj : s.n ≤ j) :
    s.loadWrites.readA j = s.readA j ∧ s.loadWrites.readB j = s.readB j := by
  rw [State.loadWrites_readA, State.loadWrites_readB, if_neg fun h => hj.not_gt h.1, if_neg fun h => hj.not_gt h.1]
  exact ⟨rfl, rfl⟩

/-- Settles O15: the writes are those of `loadWrites` whichever way the stage ends; without AUTO_RUN it ends idle. -/
theorem loadStageEffect : Obligations.LoadStageEffect := by
  unfold Obligations.LoadStageEffect
  intro s hinv hs
  have h := State.inv_iff_invParts.1 hinv
  obtain ⟨hA, hB⟩ := State.buffersFull_iff.1 h.loadWrites_full
  have hdone := h.completeLoad_done hs
  have hidle (ha : s.cfg.ctrl.getLsbD 4 = false) : s.completeLoad = s.loadWrites.setStage .idle := State.completeLoad_idle ha
  rw [State.engineStep_load hs]
  rcases s.completeLoad_cases with hx | ⟨_, hx⟩ | hx <;> rw [hx] at hdone hidle ⊢ <;>
    exact ⟨fun _ => h.loadWrites_frame hs, fun _ => s.loadWrites_kept, fun _ => ⟨rfl, rfl⟩, rfl, hA, hB, rfl, rfl, rfl, rfl, rfl,
      rfl, hdone, rfl, rfl, rfl, rfl, rfl, rfl, rfl, rfl, fun ha => by rw [hidle ha]; exact ⟨rfl, rfl, rfl, rfl⟩⟩

/-- Settles O16: the loaded state has full buffers, so RUN's checks there come down to the geometry. -/
theorem autoRunStartsRun : Obligations.AutoRunStartsRun := by
  unfold Obligations.AutoRunStartsRun
  intro s hinv hs ha
  have hfull := (State.inv_iff_invParts.1 hinv).loadWrites_full
  rw [State.engineStep_load hs]
  constructor <;> intro hg
  · have hchecks : firstFailure checkLength checkGeometry (s.loadWrites.setStage .idle) = none :=
      firstFailure_eq_none.2 ⟨checkLength_eq_none.2 hfull, checkGeometry_eq_none.2 hg⟩
    rw [State.completeLoad_run ha hg]
    exact ⟨State.issue_accepted rfl hchecks, rfl, rfl, rfl⟩
  · rw [State.completeLoad_refused ha hg]
    exact ⟨rfl, rfl⟩

end Sys2Proof.Machine
end

section
/-! PROOF. O36 and O37: the deframer's step behind its gate (43_frame_ingest.md R194, R195, R197) and its resynchronisation on a
header (R200), by induction on the bytes of junk. -/

namespace Sys2Proof.Machine

/-! The gate and the header. -/

theorem State.deframerEnabled_iff {s : State} :
    s.deframerEnabled = true ↔
      s.cfg.ctrl.getLsbD 3 = true ∧ s.status.stage = .idle ∧ s.status.done = false ∧ s.status.frameRdy = false ∧
        2 + 2 * s.n ≤ s.ingest.fifo.length := by
  simp [State.deframerEnabled, State.defrEn, State.busy_eq_false, and_assoc]

theorem State.headerAtHead_iff {s : State} :
    s.headerAtHead = true ↔ s.ingest.fifo[0]? = some 0xFF ∧ s.ingest.fifo[1]? = some 0xFF := by
  unfold State.headerAtHead
  rcases s.ingest.fifo with _ | ⟨b0, _ | ⟨b1, rest⟩⟩ <;> simp

theorem State.deframerStep_header {s : State} (hg : s.deframerEnabled = true) (hh : s.headerAtHead = true) :
    s.deframerStep = s.startLoad := by
  simp [State.deframerStep, hg, hh]

theorem State.deframerStep_mismatch {s : State} (hg : s.deframerEnabled = true) (hh : ¬ s.headerAtHead = true) :
    s.deframerStep = s.discardByte := by
  simp [State.deframerStep, hg, hh]

/-- Settles O36, branch by branch of the deframer's step. -/
theorem deframerStepEffect : Obligations.DeframerStepEffect := by
  unfold Obligations.DeframerStepEffect
  intro s
  refine ⟨fun hgate => ?_, fun hgate b0 b1 rest hfifo => ?_⟩
  · exact State.deframerStep_of_not_enabled (eq_false_of_ne_true (mt State.deframerEnabled_iff.1 hgate))
  · have hg := State.deframerEnabled_iff.2 hgate
    have hh : s.headerAtHead = true ↔ b0 = 0xFF ∧ b1 = 0xFF := by simp [State.headerAtHead_iff, hfifo]
    refine ⟨fun hne => ?_, fun heq => ?_⟩
    · rw [State.deframerStep_mismatch hg (mt hh.1 hne), State.discardByte, hfifo]
      rfl
    · rw [State.deframerStep_header hg (hh.2 heq), State.startLoad, hfifo]
      rfl

/-! Resynchronisation. -/

/-- The state with `k` bytes of the stream discarded and counted (43_frame_ingest.md R195). -/
def State.discardBytes (k : Nat) (s : State) : State :=
  { s with
    ingest := { s.ingest with fifo := s.ingest.fifo.drop k, resyncCount := s.ingest.resyncCount + BitVec.ofNat 32 k } }

theorem State.discardBytes_fifo (k : Nat) (s : State) : (s.discardBytes k).ingest.fifo = s.ingest.fifo.drop k := rfl

theorem State.discardBytes_zero (s : State) : s.discardBytes 0 = s := by simp [State.discardBytes]

theorem State.discardByte_discardBytes (k : Nat) (s : State) : (s.discardBytes k).discardByte = s.discardBytes (k + 1) := by
  simp [State.discardBytes, State.discardByte, BitVec.ofNat_add, BitVec.add_assoc]

/-- The gate stays open as long as its fill is left (43_frame_ingest.md R194). -/
theorem State.discardBytes_enabled {s : State} (hg : s.deframerEnabled = true) {k : Nat}
    (hk : k + (2 + 2 * s.n) ≤ s.ingest.fifo.length) : (s.discardBytes k).deframerEnabled = true := by
  obtain ⟨he, hs, hd, hf, -⟩ := State.deframerEnabled_iff.1 hg
  refine State.deframerEnabled_iff.2 ⟨he, hs, hd, hf, ?_⟩
  rw [State.discardBytes_fifo, List.length_drop]
  exact Nat.le_sub_of_add_le' hk

/-- Each step discards a byte as long as the gate's fill is left and no header is at the FIFO's head. -/
theorem State.deframerStep_iterate {s : State} (hg : s.deframerEnabled = true) {k : Nat}
    (hk : k + (2 + 2 * s.n) ≤ s.ingest.fifo.length)
    (hjunk : ∀ i, i < k → ¬(s.ingest.fifo[i]? = some 0xFF ∧ s.ingest.fifo[i + 1]? = some 0xFF)) :
    State.deframerStep^[k] s = s.discardBytes k := by
  induction k with
  | zero => exact s.discardBytes_zero.symm
  | succ k ih =>
    have hh : ¬ (s.discardBytes k).headerAtHead = true := by
      rw [State.headerAtHead_iff, State.discardBytes_fifo, List.getElem?_drop, List.getElem?_drop]
      exact hjunk k k.lt_succ_self
    rw [Function.iterate_succ_apply', ih (by omega) fun i hi => hjunk i (by omega),
      State.deframerStep_mismatch (State.discardBytes_enabled hg (by omega)) hh, State.discardByte_discardBytes]

/-- Settles O37: the junk goes byte by byte, and the gate is then still open on the header. -/
theorem resynchronisesOnFrame : Obligations.ResynchronisesOnFrame := by
  unfold Obligations.ResynchronisesOnFrame
  intro s junk payload hfifo hpay hjunk he hs hd hf
  have hlen : junk.length + (2 + 2 * s.n) ≤ s.ingest.fifo.length := by
    rw [hfifo, List.length_append, List.length_cons, List.length_cons]
    omega
  have hg : s.deframerEnabled = true := State.deframerEnabled_iff.2 ⟨he, hs, hd, hf, by omega⟩
  have hrest : (s.discardBytes junk.length).ingest.fifo = 0xFF :: 0xFF :: payload := by
    rw [State.discardBytes_fifo, hfifo, List.drop_left]
  have hh : (s.discardBytes junk.length).headerAtHead = true := by simp [State.headerAtHead_iff, hrest]
  rw [Function.iterate_succ_apply', State.deframerStep_iterate hg hlen hjunk,
    State.deframerStep_header (State.discardBytes_enabled hg hlen) hh]
  refine ⟨?_, rfl, ?_⟩
  · rw [← hrest]
    rfl
  · rw [State.startLoad_fifo, hrest]
    rfl

end Sys2Proof.Machine
end

section
/-! PROOF. O38 and O39: the stream port and STREAM_IN (43_frame_ingest.md R190, R191), and the push ports (R202). An accepted bus
write is the register's write rule, which the block's answer does not touch. -/

namespace Sys2Proof.Machine

/-! The stream port. -/

theorem State.fifoReady_iff {s : State} : s.fifoReady = true ↔ s.ingest.fifo.length < s.build.fifoDepth := decide_eq_true_iff

theorem State.streamStep_full {s : State} (h : s.build.fifoDepth ≤ s.ingest.fifo.length) : s.streamStep = s := by
  rcases s.streamStep_cases with hx | ⟨_, _, _, hroom, _⟩
  · exact hx
  · exact absurd hroom h.not_gt

theorem State.streamStep_room {s : State} (h : s.ingest.fifo.length < s.build.fifoDepth) {b : Byte} {rest : List Byte}
    (hs : s.env.streamSource = b :: rest) :
    s.streamStep = { s with env := { s.env with streamSource := rest } }.appendByte b := by
  simp [State.streamStep, hs, State.fifoReady_iff.2 h]

/-- No byte is lost or reordered on the way into the FIFO (43_frame_ingest.md R190). -/
theorem State.streamStep_conserves (s : State) :
    s.streamStep.ingest.fifo ++ s.streamStep.env.streamSource = s.ingest.fifo ++ s.env.streamSource := by
  rcases s.streamStep_cases with hx | ⟨b, rest, hs, _, hx⟩ <;> rw [hx]
  rw [hs]
  exact List.append_assoc _ [b] rest

/-! STREAM_IN. -/

section
variable {s : State} (v : Word)

theorem State.streamIn_room (h : s.ingest.fifo.length < s.build.fifoDepth) :
    s.streamIn v = s.appendByte (v.extractLsb' 0 8) := by
  rw [State.streamIn, if_pos (State.fifoReady_iff.2 h), BitVec.truncate_eq_setWidth, BitVec.setWidth_eq_extractLsb' (by decide)]

theorem State.streamIn_full (h : s.build.fifoDepth ≤ s.ingest.fifo.length) : s.streamIn v = s.recordErr .fifoOvf 0x044 :=
  if_neg (mt State.fifoReady_iff.1 h.not_gt)

end

/-- Settles O38: the port's two outcomes, then STREAM_IN's; BUSY refuses no write of STREAM_IN (20_memory.md R83). -/
theorem streamPortAndStreamIn : Obligations.StreamPortAndStreamIn := by
  unfold Obligations.StreamPortAndStreamIn
  refine ⟨fun s => ⟨s.streamStep_conserves, State.streamStep_full, fun h b rest hs => State.streamStep_room h hs⟩, fun s v => ?_⟩
  have hw : s.busWrite 0x044 v 0b1111 = .next ((s.respond (.write false)).streamIn v) :=
    s.busWrite_reg .streamIn v (by decide) (.inr rfl)
  exact ⟨fun h => hw.trans (congrArg _ (State.streamIn_full v h)), fun h => hw.trans (congrArg _ (State.streamIn_room v h))⟩

/-! The push ports. -/

section
variable {s : State} (v : Word)

theorem State.pushA_full (h : s.buf.aCount.toNat = s.n) : s.pushA v = s.recordErr .bufOvf 0x03C := if_pos h

theorem State.pushB_full (h : s.buf.bCount.toNat = s.n) : s.pushB v = s.recordErr .bufOvf 0x040 := if_pos h

theorem State.pushA_room (h : s.buf.aCount.toNat ≠ s.n) :
    s.pushA v =
      State.dropResults
        { s with
          ramA := Ram.set s.ramA s.buf.aCount.toNat (v.extractLsb' 0 8)
          buf := { s.buf with aCount := s.buf.aCount + 1 } } := by
  rw [State.pushA, if_neg h, BitVec.truncate_eq_setWidth, BitVec.setWidth_eq_extractLsb' (by decide)]

theorem State.pushB_room (h : s.buf.bCount.toNat ≠ s.n) :
    s.pushB v =
      State.dropResults
        { s with
          ramB := Ram.set s.ramB s.buf.bCount.toNat (v.extractLsb' 0 8)
          buf := { s.buf with bCount := s.buf.bCount + 1 } } := by
  rw [State.pushB, if_neg h, BitVec.truncate_eq_setWidth, BitVec.setWidth_eq_extractLsb' (by decide)]

end

theorem State.readA_of_set {s t : State} {i : Nat} {x : Byte} (h : t.ramA = Ram.set s.ramA i x)
    (hr : t.env.resets = s.env.resets) : t.readA i = x ∧ ∀ j, j ≠ i → t.readA j = s.readA j := by
  unfold State.readA
  rw [h, hr, Ram.find_set_same]
  exact ⟨rfl, fun j hj => by rw [Ram.find_set_other _ _ hj]⟩

theorem State.readB_of_set {s t : State} {i : Nat} {x : Byte} (h : t.ramB = Ram.set s.ramB i x)
    (hr : t.env.resets = s.env.resets) : t.readB i = x ∧ ∀ j, j ≠ i → t.readB j = s.readB j := by
  unfold State.readB
  rw [h, hr, Ram.find_set_same]
  exact ⟨rfl, fun j hj => by rw [Ram.find_set_other _ _ hj]⟩

/-- Settles O39: BUSY refuses both ports; while idle each write is its port's rule, on a full buffer or not. -/
theorem pushWrites : Obligations.PushWrites := by
  unfold Obligations.PushWrites
  refine ⟨fun s v hb => ⟨State.busWrite_reg_refused (r := .aPush) v (by decide) hb rfl,
    State.busWrite_reg_refused (r := .bPush) v (by decide) hb rfl⟩, fun s v hb => ?_⟩
  have hA : s.busWrite 0x03C v 0b1111 = .next ((s.respond (.write false)).pushA v) :=
    s.busWrite_reg .aPush v (by decide) (.inl hb)
  have hB : s.busWrite 0x040 v 0b1111 = .next ((s.respond (.write false)).pushB v) :=
    s.busWrite_reg .bPush v (by decide) (.inl hb)
  refine ⟨fun h => hA.trans (congrArg _ (State.pushA_full v h)), fun h => hB.trans (congrArg _ (State.pushB_full v h)),
    fun h => ⟨_, hA.trans (congrArg _ (State.pushA_room v h)), rfl, State.readA_of_set rfl rfl⟩,
    fun h => ⟨_, hB.trans (congrArg _ (State.pushB_room v h)), rfl, State.readB_of_set rfl rfl⟩⟩

end Sys2Proof.Machine
end

section
/-! PROOF. O5, O6, O8 and O12: the issue of a command (44_control.md R210 to R215): what BUSY refuses, what NOP is, and that a
command changes the error record or has its effect, not both. -/

namespace Sys2Proof.Machine

/-! The commands with no checks of their own. -/

theorem exec_clrbuf (s : State) : exec .clrbuf s = s.issue .clrbuf noCheck State.clearBuffers := rfl
theorem exec_ack (s : State) : exec .ack s = s.issue .ack noCheck State.acknowledge := rfl
theorem exec_flush (s : State) : exec .flush s = s.issue .flush noCheck State.flushFifo := rfl
theorem exec_sreset (s : State) : exec .sreset s = s.issue .sreset noCheck State.softReset := rfl

theorem State.acknowledge_eq_self {s : State} (hd : s.status.done = false) (hf : s.status.frameRdy = false) :
    s.acknowledge = s :=
  calc s.acknowledge
    _ = { s with status := { s.status with done := s.status.done, frameRdy := s.status.frameRdy } } := by rw [hd, hf]; rfl
    _ = s := rfl

/-- Settles O12: while idle a command with no checks is its named effect. -/
theorem clrbufAckFlushEffects : Obligations.ClrbufAckFlushEffects := by
  unfold Obligations.ClrbufAckFlushEffects
  intro s hb
  have ack : exec .ack s = .next s.acknowledge := (exec_ack s).trans (State.issue_accepted hb rfl)
  exact ⟨(exec_clrbuf s).trans (State.issue_accepted hb rfl), ack,
    fun hd hf => ack.trans (congrArg _ (State.acknowledge_eq_self hd hf)), (exec_flush s).trans (State.issue_accepted hb rfl)⟩

/-! A word written to CMD. -/

theorem State.command_of_decode (s : State) {w : Word} {i : Instr} (h : decode w = .ok i) : s.command w = exec i s := by
  rw [State.command, h]

/-- While BUSY every command but NOP is refused (44_control.md R211). -/
theorem exec_of_busy {i : Instr} {s : State} (hb : s.busy = true) (hi : i ≠ .nop) :
    exec i s = .next (s.recordErr .cmdBusy (encode i)) := by
  cases i with
  | nop => exact absurd rfl hi
  | clrbuf => exact (exec_clrbuf s).trans (State.issue_busy hb)
  | ack => exact (exec_ack s).trans (State.issue_busy hb)
  | flush => exact (exec_flush s).trans (State.issue_busy hb)
  | sreset => exact (exec_sreset s).trans (State.issue_busy hb)
  | _ => exact State.issue_busy hb

/-- While BUSY every word but NOP's is refused, whether it is a command or not (44_control.md R211). -/
theorem State.command_of_busy {s : State} {w : Word} (hb : s.busy = true) (hw : w ≠ 0) :
    s.command w = .next (s.recordErr .cmdBusy w) := by
  by_cases hill : illegalWord w
  · rw [s.command_of_illegalWord hill, if_pos hb]
  · obtain ⟨i, hwf, rfl⟩ := exists_encode_of_not_illegalWord hill
    rw [s.command_of_decode (decode_encode hwf)]
    exact exec_of_busy hb fun hi => hw (by rw [hi]; rfl)

/-- Settles O5: the word is refused at CMD; at the bus it is refused in the state that holds the answer OK. -/
theorem busyRefusesEveryCommandButNop : Obligations.BusyRefusesEveryCommandButNop := by
  unfold Obligations.BusyRefusesEveryCommandButNop
  exact fun s w hb hw => ⟨State.command_of_busy hb hw,
    (s.busWrite_cmd_eq_command w).trans (State.command_of_busy (s := s.respond (.write false)) hb hw)⟩

/-- NOP is the only command with OP = 0 (30_encoding.md R102, R103). -/
theorem illegalWord_of_opField_zero {w : Word} (ho : opField w = 0) (hw : w ≠ 0) : illegalWord w := by
  by_contra hl
  obtain ⟨i, _, rfl⟩ := exists_encode_of_not_illegalWord hl
  cases i with
  | nop => exact hw rfl
  | angleI imm =>
    rw [encode, opField_commandWord] at ho
    exact absurd ho (by decide)
  | _ => exact absurd ho (by decide)

/-- Settles O6: the word 0 is NOP's, and every other word with OP = 0 is illegal. -/
theorem nopChangesNothing : Obligations.NopChangesNothing := by
  unfold Obligations.NopChangesNothing
  exact fun s => ⟨rfl, s.command_of_decode (decode_encode (i := .nop) rfl),
    fun w ho hw => s.command_of_illegalWord (illegalWord_of_opField_zero ho hw)⟩

/-! The error record. -/

/-- The effect of an accepted command, SRESET's apart, leaves the error record alone. -/
theorem Accepted.error {i : Instr} {s t : State} (h : Accepted i s t) (hi : i ≠ .sreset) : t.error = s.error := by
  cases i with
  | nop => exact congrArg State.error h
  | sreset => exact absurd rfl hi
  | corrX | corrC | peak =>
    obtain ⟨_, _, rfl⟩ := h
    rfl
  | angle | angleI imm | run =>
    obtain ⟨_, _, _, rfl⟩ := h
    rfl
  | clrbuf | ack | flush =>
    obtain ⟨_, rfl⟩ := h
    rfl

/-- Settles O8: a command that changes the error record was not accepted, so it was rejected, which records an error and no more. -/
theorem rejectedCommandChangesOnlyErrors : Obligations.RejectedCommandChangesOnlyErrors := by
  unfold Obligations.RejectedCommandChangesOnlyErrors
  intro i s t hi hx hne
  rcases exec_cases hx with ⟨c, rfl⟩ | ha
  · rfl
  · exact absurd (ha.error hi) hne

end Sys2Proof.Machine
end

section
/-! PROOF. O27: RUN against CORR, PEAK and ANGLE one after the other (44_control.md R212, R217). The next command's issue clears
what the end of the stage before it has set, so after each stage the two differ in the latches alone. -/

namespace Sys2Proof.Machine

/-- The state with other engine latches. -/
def State.withLatches (l : Latches) (s : State) : State := { s with eng := l }

/-- RUN is CORR in CTRL.MODE but for the latches (44_control.md R212). -/
theorem State.startRun_eq_startCorr (s : State) : s.startRun = (s.startCorr s.ctrlMode).withLatches s.startRun.eng := rfl

section -- each stage in a RUN
variable (s : State) {l : Latches}

/-- After CORR in a RUN the block stands where the issue of PEAK puts it. -/
theorem State.engineStep_startCorr_withLatches {m : Mode} (hc : l.chain = .run) (hm : l.mode = m) :
    ((s.startCorr m).withLatches l).engineStep = (s.startCorr m).engineStep.startPeak.withLatches l := by
  obtain ⟨_, _, _, _, _, _⟩ := l
  subst hc hm
  rfl

/-- After PEAK in a RUN the block stands where the issue of ANGLE puts it. -/
theorem State.engineStep_startPeak_withLatches (hc : l.chain = .run) :
    (s.startPeak.withLatches l).engineStep = (s.startPeak.engineStep.startAngle .peak 0).withLatches l := by
  obtain ⟨_, _, _, _, _, _⟩ := l
  subst hc
  rfl

/-- Of the latches the ANGLE stage on a peak reads the source, the selection and the mode (42_angle.md R164 to R169). -/
theorem State.engineStep_startAngle_withLatches (hs : l.src = .peak) (hl : l.sel = s.peakSel) (ha : l.amode = s.angleMode) :
    ((s.startAngle .peak 0).withLatches l).engineStep = (s.startAngle .peak 0).engineStep.withLatches l := by
  obtain ⟨_, _, _, _, _, _⟩ := l
  subst hs hl ha
  rfl

/-- The three stages of a RUN are those of CORR, PEAK and ANGLE, each issued at the end of the one before. -/
theorem State.engineStep_startRun :
    s.startRun.engineStep.engineStep.engineStep =
      ((s.startCorr s.ctrlMode).engineStep.startPeak.engineStep.startAngle .peak 0).engineStep.withLatches s.startRun.eng :=
  calc s.startRun.engineStep.engineStep.engineStep
    _ = ((s.startCorr s.ctrlMode).withLatches s.startRun.eng).engineStep.engineStep.engineStep :=
      congrArg (·.engineStep.engineStep.engineStep) s.startRun_eq_startCorr
    _ = ((s.startCorr s.ctrlMode).engineStep.startPeak.withLatches s.startRun.eng).engineStep.engineStep := by
      rw [State.engineStep_startCorr_withLatches s (m := s.ctrlMode) rfl rfl]
    _ = (((s.startCorr s.ctrlMode).engineStep.startPeak.engineStep.startAngle .peak 0).withLatches
          s.startRun.eng).engineStep := by rw [State.engineStep_startPeak_withLatches _ rfl]
    _ = _ := State.engineStep_startAngle_withLatches _ rfl rfl rfl

end

/-- The CORR of CTRL.MODE, issued while idle on full buffers. -/
theorem exec_corr_ctrlMode {s : State} (hb : s.busy = false) (hf : s.buffersFull = true) :
    exec (if s.cfg.ctrl.getLsbD 0 = true then .corrC else .corrX) s = .next (s.startCorr s.ctrlMode) := by
  obtain ⟨hx, hc, _, _⟩ := corrIssueEffect s hb hf
  rw [State.ctrlMode, modeOfBit]
  split
  · exact hc
  · exact hx

theorem exec_peak_accepted {s : State} (hb : s.busy = false) (hr : s.status.resValid = true) :
    exec .peak s = .next s.startPeak := (peakIssueEffect s hb hr).1

theorem exec_angle_accepted {s : State} (hb : s.busy = false) (hp : s.status.peakValid = true) (hg : s.geometryValid = true) :
    exec .angle s = .next (s.startAngle .peak 0) := (angleIssueEffect s hb hg).1 hp

/-- Settles O27: each stage leaves the flag the next command's check asks for, and the stages differ in the latches alone. -/
theorem runIsCorrPeakAngle : Obligations.RunIsCorrPeakAngle := by
  unfold Obligations.RunIsCorrPeakAngle
  intro s _ hb hf hg
  obtain ⟨_, _, _, hrun⟩ := corrIssueEffect s hb hf
  refine ⟨s.startRun, s.startCorr s.ctrlMode, _, _, hrun hg, exec_corr_ctrlMode hb hf, exec_peak_accepted rfl rfl,
    exec_angle_accepted rfl rfl hg, ?_⟩
  rw [s.engineStep_startRun]
  exact ⟨rfl, rfl, rfl⟩

end Sys2Proof.Machine
end

section
/-! PROOF. O52: an engine step takes a running stage on (44_control.md R216, R217), and with nothing scheduled the engine moves
until the block is idle. -/

namespace Sys2Proof.Machine

/-- The engine leaves what is outside the block alone. -/
@[simp] theorem State.engineStep_env (s : State) : s.engineStep.env = s.env := by
  unfold State.engineStep
  split
  · rfl
  · rcases s.completeLoad_cases with h | ⟨_, h⟩ | h <;> rw [h] <;> rfl
  · rcases s.completeCorr_cases with ⟨_, h⟩ | ⟨_, h⟩ <;> rw [h] <;> rfl
  · rcases s.completePeak_cases with ⟨_, h⟩ | ⟨_, h⟩ <;> rw [h] <;> rfl
  · rfl

/-- Every stage is followed by a later one or by the end (44_control.md R217). -/
theorem State.engineStep_rank_lt {s : State} (hb : s.busy = true) : s.engineStep.status.stage.rank < s.status.stage.rank := by
  cases hs : s.status.stage with
  | idle => exact absurd hs (State.busy_eq_true.1 hb)
  | load =>
    rw [State.engineStep_load hs]
    rcases s.completeLoad_cases with h | ⟨_, h⟩ | h <;> rw [h] <;> simp [Stage.rank]
  | corr =>
    rw [State.engineStep_corr hs]
    rcases s.completeCorr_cases with ⟨_, h⟩ | ⟨_, h⟩ <;> rw [h] <;> simp [Stage.rank]
  | peak =>
    rw [State.engineStep_peak hs]
    rcases s.completePeak_cases with ⟨_, h⟩ | ⟨_, h⟩ <;> rw [h] <;> simp [Stage.rank]
  | angle =>
    rw [State.engineStep_angle hs]
    exact Nat.zero_lt_one

/-- With nothing scheduled a running stage completes first (44_control.md R218; notes/assumptions/1.md). -/
theorem State.turnOf_of_busy {s : State} (hn : s.env.rstN = true) (he : s.env.schedule = []) (hb : s.busy = true) :
    s.turnOf = .engine := by
  have htick : s.tick.busy = true := hb
  simp [State.turnOf, State.nextAgent, State.defaultAgent, he, hn, htick]

theorem run_succ {s u : State} (h : step s = .next u) (k : Nat) : Host.Core.run core (k + 1) s = Host.Core.run core k u := by
  simp [Host.Core.run, show core.step s = .next u from h]

/-- With nothing scheduled the block is idle after at most as many steps as it has stages left. -/
theorem run_to_idle (m : Nat) {s : State} (hm : s.status.stage.rank ≤ m) (hn : s.env.rstN = true) (he : s.env.schedule = []) :
    ∃ k t, k ≤ m ∧ Host.Core.run core k s = .next t ∧ State.busy t = false := by
  induction m generalizing s with
  | zero =>
    refine ⟨0, s, le_rfl, rfl, ?_⟩
    by_contra hb
    exact absurd (State.engineStep_rank_lt (eq_true_of_ne_false hb)) (by omega)
  | succ m ih =>
    cases hb : s.busy with
    | false => exact ⟨0, s, Nat.zero_le _, rfl, hb⟩
    | true =>
      have hstep : step s = .next s.atTurn.engineStep := step_engine hn (State.turnOf_of_busy hn he hb)
      have hbt : s.atTurn.busy = true := by simpa [State.busy] using hb
      have hlt := State.engineStep_rank_lt hbt
      rw [State.atTurn_status] at hlt
      obtain ⟨k, t, hk, hrun, ht⟩ := ih (s := s.atTurn.engineStep) (by omega) (by simpa using hn)
        (by simp [State.atTurn_eq, he])
      exact ⟨k + 1, t, Nat.succ_le_succ hk, (run_succ hstep k).trans hrun, ht⟩

/-- Settles O52: every engine step lowers the rank of the stage, and no rank is above four. -/
theorem stagesComplete : Obligations.StagesComplete := by
  unfold Obligations.StagesComplete
  refine ⟨fun _ => State.engineStep_rank_lt, fun s hn he _ => run_to_idle 4 ?_ hn he⟩
  cases s.status.stage <;> decide

end Sys2Proof.Machine
end

section
/-! PROOF. O7, O46 and O48: the checks of each command (60_exceptions.md R235), the error record (60_exceptions.md R230, R234,
R237), and the interrupt level (60_exceptions.md R240). -/

namespace Sys2Proof.Machine

/-! The checks that fail. -/

section
variable {s : State}

theorem checkLength_of_not_full (h : s.buffersFull = false) : checkLength s = some .length := by
  rw [checkLength, h, if_neg Bool.false_ne_true]

theorem checkGeometry_of_invalid (h : s.geometryValid = false) : checkGeometry s = some .cfg := by
  rw [checkGeometry, h, if_neg Bool.false_ne_true]

theorem checkResult_of_invalid (h : s.status.resValid = false) : checkResult s = some .noResult := by
  rw [checkResult, h, if_neg Bool.false_ne_true]

theorem checkPeak_of_invalid (h : s.status.peakValid = false) : checkPeak s = some .noResult := by
  rw [checkPeak, h, if_neg Bool.false_ne_true]

theorem checkIndex_of_above {imm : Nat} (h : 2 * (s.n : Int) - 2 < imm) : checkIndex imm s = some .index := if_pos h

/-- A check that fails hides those after it (60_exceptions.md R235). -/
theorem firstFailure_of_some {p : State → Option Cause} {c : Cause} (q : State → Option Cause) (h : p s = some c) :
    firstFailure p q s = some c := by
  rw [firstFailure, h]

/-- An invalid geometry is found once the check before it passes. -/
theorem firstFailure_of_invalid_geometry {p : State → Option Cause} (h : p s = none) (hg : s.geometryValid = false) :
    firstFailure p checkGeometry s = some .cfg := by
  rw [firstFailure, h]
  exact checkGeometry_of_invalid hg

end

/-- ANGLE.I's word as a number (30_encoding.md R102). -/
theorem encode_angleI_eq_ofNat (k : Nat) : encode (.angleI k) = BitVec.ofNat 32 (k * 65536 + 0x13) := by
  apply BitVec.eq_of_toNat_eq
  rw [encode_angleI, BitVec.toNat_append, ← Nat.shiftLeft_add_eq_or_of_lt (BitVec.isLt _), Nat.shiftLeft_eq]
  simp only [BitVec.toNat_ofNat]
  omega

/-- Settles O7: each command is rejected by the first of its checks that fails. -/
theorem issueChecksInOrder : Obligations.IssueChecksInOrder := by
  unfold Obligations.IssueChecksInOrder
  intro s hb
  refine ⟨fun hf => ?length, fun hf hg => ?run, fun hr => ?peak, fun hp => ?anglePeak, fun hp hg => ?angle,
    fun imm _ => ⟨fun hi => ?index, fun hi hg => ?angleI⟩⟩
  case length =>
    have hl := checkLength_of_not_full hf
    exact ⟨State.issue_rejected hb hl, State.issue_rejected hb hl, State.issue_rejected hb (firstFailure_of_some _ hl)⟩
  case run => exact State.issue_rejected hb (firstFailure_of_invalid_geometry (checkLength_eq_none.2 hf) hg)
  case peak => exact State.issue_rejected hb (checkResult_of_invalid hr)
  case anglePeak => exact State.issue_rejected hb (firstFailure_of_some _ (checkPeak_of_invalid hp))
  case angle => exact State.issue_rejected hb (firstFailure_of_invalid_geometry (checkPeak_eq_none.2 hp) hg)
  case index =>
    rw [← encode_angleI_eq_ofNat]
    exact State.issue_rejected hb (firstFailure_of_some _ (checkIndex_of_above hi))
  case angleI =>
    rw [← encode_angleI_eq_ofNat]
    exact State.issue_rejected hb (firstFailure_of_invalid_geometry (checkIndex_eq_none.2 hi) hg)

/-! The error record. -/

theorem Cause.bit_lt (c : Cause) : c.bit < 10 := by
  cases c <;> decide

theorem Cause.code_toNat (c : Cause) : c.code.toNat = c.bit + 1 := by
  cases c <;> rfl

section -- recording and clearing
variable (s : State) (c : Cause) (w : Word)

theorem State.recordErr_err : (s.recordErr c w).error.err = s.error.err ||| BitVec.twoPow 10 c.bit := by
  rw [BitVec.twoPow_eq]
  rfl

/-- The bit a cause sets is its code less 1 (60_exceptions.md R230). -/
theorem State.recordErr_err_getLsbD (k : Nat) :
    (s.recordErr c w).error.err.getLsbD k = (s.error.err.getLsbD k || k + 1 == c.code.toNat) := by
  rw [s.recordErr_err, BitVec.getLsbD_or, BitVec.getLsbD_twoPow, decide_eq_true c.bit_lt, Bool.true_and, c.code_toNat]
  exact congrArg _ (Bool.eq_iff_iff.2 (by rw [decide_eq_true_iff, beq_iff_eq]; omega))

theorem State.recordErr_errAny : (s.recordErr c w).errAny = true := by
  rw [State.errAny_eq_decide, decide_eq_true_iff]
  intro h0
  have hbit := s.recordErr_err_getLsbD c w c.bit
  simp [h0, c.code_toNat] at hbit

theorem State.recordErr_captures {s : State} (h : s.error.err = 0) :
    (s.recordErr c w).error.cause = c.code ∧ (s.recordErr c w).error.info = w := ⟨if_pos h, if_pos h⟩

theorem State.recordErr_keeps_captured {s : State} (h : s.error.err ≠ 0) :
    (s.recordErr c w).error.cause = s.error.cause ∧ (s.recordErr c w).error.info = s.error.info := ⟨if_neg h, if_neg h⟩

theorem State.clearErr_err_getLsbD {k : Nat} (hk : k < 10) :
    (s.clearErr w).error.err.getLsbD k = (s.error.err.getLsbD k && !w.getLsbD k) := by
  simp [hk]

/-- ERR's write rule, which BUSY does not refuse (20_memory.md R83; 60_exceptions.md R237). -/
theorem State.busWrite_err : s.busWrite 0x014 w 0b1111 = .next ((s.respond (.write false)).clearErr w) :=
  s.busWrite_reg .err w (by decide) (.inr rfl)

end

/-- Settles O46: the codes by evaluation, recording and clearing by their effect on each bit of ERR. -/
theorem errorRecordRules : Obligations.ErrorRecordRules := by
  unfold Obligations.ErrorRecordRules
  refine ⟨by decide, fun s c info => ?_, fun s w => ?_⟩
  · exact ⟨fun k _ => s.recordErr_err_getLsbD c info k, State.recordErr_captures c info,
      State.recordErr_keeps_captured c info, rfl, s.recordErr_errAny c info⟩
  · exact ⟨_, s.busWrite_err w, fun k hk => (s.respond (.write false)).clearErr_err_getLsbD w hk, rfl, rfl, rfl⟩

/-! The interrupt level. -/

theorem State.irq_eq_true_iff (s : State) :
    s.irq = true ↔ (s.status.done = true ∧ s.doneIe = true) ∨ (s.error.err ≠ 0 ∧ s.errIe = true) ∨
      (s.status.frameRdy = true ∧ s.frameIe = true) := by
  rw [State.irq, s.errAny_eq_decide]
  simp only [Bool.or_eq_true, Bool.and_eq_true, decide_eq_true_eq, or_assoc]

/-- Settles O48: the level's three causes; STATUS holds the level in bit 11, and nothing raises it in the reset state. -/
theorem interruptLevel : Obligations.InterruptLevel := by
  unfold Obligations.InterruptLevel
  exact fun s => ⟨s.irq_eq_true_iff, s.statusWord_getLsbD (by decide), by decide⟩

end Sys2Proof.Machine
end

section
/-! PROOF. O51 and O13: the turn in reset and the only stop (70_reset_and_hazards.md R260; 20_memory.md R90), and the soft reset
(70_reset_and_hazards.md R262). -/

namespace Sys2Proof.Machine

/-! Nothing stops with `rst_n` high: each level of the host's write answers a next state. -/

theorem State.command_answers (s : State) (w : Word) : ∃ t, s.command w = .next t := by
  unfold State.command
  cases decode w with
  | ok i => exact exec_answers i s
  | error e => exact ⟨_, rfl⟩

theorem State.writeReg_answers (s : State) (v : Word) (r : Reg) : ∃ t, s.writeReg v r = .next t := by
  cases r with
  | cmd => exact s.command_answers v
  | _ => exact ⟨_, rfl⟩

theorem State.writeTarget_answers (s : State) (v : Word) (g : Target) : ∃ t, s.writeTarget v g = .next t := by
  cases g with
  | reg r => exact s.writeReg_answers v r
  | _ => exact ⟨_, rfl⟩

theorem State.busWrite_answers (s : State) (o : Offset) (v : Word) (be : BitVec 4) : ∃ t, s.busWrite o v be = .next t := by
  rcases s.busWrite_cases o v be with ⟨c, _, hx⟩ | ⟨g, _, hx⟩
  · exact ⟨_, hx⟩
  · rw [hx]
    exact State.writeTarget_answers _ v g

theorem State.hostAct_answers {s : State} (hn : s.env.rstN = true) (a : HostAction) (rest : List HostAction) :
    ∃ t, s.hostAct a rest = .next t := by
  cases a with
  | assertReset | releaseReset => exact ⟨_, rfl⟩
  | read o => exact ⟨_, State.hostAct_read hn rest o⟩
  | write o v be =>
    rw [State.hostAct_write hn]
    exact State.busWrite_answers _ o v be
  | poll k level => exact ⟨_, State.hostAct_poll hn rest k level⟩

theorem State.runsOn_of_rstN {s : State} (hn : s.env.rstN = true) : s.RunsOn := by
  unfold State.RunsOn
  cases hg : s.turnOf with
  | engine => exact ⟨_, step_engine hn hg⟩
  | deframer => exact ⟨_, step_deframer hn hg⟩
  | stream => exact ⟨_, step_stream hn hg⟩
  | host =>
    cases hp : s.env.hostProgram with
    | nil => exact ⟨_, step_host_nil hg hp⟩
    | cons a rest =>
      rw [step_host_cons hg hp]
      exact State.hostAct_answers (by rw [State.atTurn_rstN, hn]) a rest

/-! In reset. -/

/-- Driving `rst_n` to the level it has changes nothing (notes/assumptions/11.md). -/
theorem State.driveReset_of_eq {s : State} {level : Bool} (h : s.env.rstN = level) : s.driveReset level = s := if_pos h

section
variable {s : State} (hn : s.env.rstN = false)
include hn

/-- In reset no agent of the block has a step, and the stream port is not ready (70_reset_and_hazards.md R260). -/
theorem State.turn_in_reset {g : Agent} (hg : g ≠ .host) : s.turn g = .next s := by
  cases g with
  | host => exact absurd rfl hg
  | stream | engine | deframer => rw [State.turn, hn, if_neg Bool.false_ne_true]

/-- In reset an access has no move (20_memory.md R90; notes/assumptions/10.md). -/
theorem State.hostAct_access_in_reset {a : HostAction} (rest : List HostAction) (ha : a ≠ .assertReset)
    (hr : a ≠ .releaseReset) : s.hostAct a rest = .fault .accessDuringReset := by
  cases a with
  | assertReset => exact absurd rfl ha
  | releaseReset => exact absurd rfl hr
  | read | write | poll => rw [State.hostAct, hn, if_neg Bool.false_ne_true]

end

/-- Settles O51: with `rst_n` high by the agent whose turn it is, with it low by the host's next action. -/
theorem onlyAccessesInResetStop : Obligations.OnlyAccessesInResetStop := by
  unfold Obligations.OnlyAccessesInResetStop
  refine ⟨fun _ => State.runsOn_of_rstN, fun s hn hg => ?agent, fun s hn hg => ⟨step_host_nil hg, fun a rest hp => ?host⟩⟩
  case agent => rw [step_eq, State.turn_in_reset (by rw [State.atTurn_rstN, hn]) hg]
  case host =>
    rw [step_host_cons hg hp]
    refine ⟨fun ha => ?low, fun ha => ?high, State.hostAct_access_in_reset (by rw [State.atTurn_rstN, hn]) rest⟩
    case low => rw [ha, State.hostAct, State.driveReset_of_eq (by simp [hn])]
    case high => rw [ha, State.hostAct, State.driveReset_of_ne (by simp [hn])]

/-! The soft reset. -/

/-- With DONE, FRAME_RDY and ERR 0 no cause of the interrupt is left, whatever IRQ_EN holds (60_exceptions.md R240). -/
theorem State.softReset_statusWord (s : State) : s.softReset.statusWord = 0 :=
  calc s.softReset.statusWord
    _ = State.reset.statusWord := rfl
    _ = 0 := by decide

/-- Settles O13: accepted, it is the soft reset, each item of which is 0 or kept; while BUSY its word is refused. -/
theorem sresetEffect : Obligations.SresetEffect := by
  unfold Obligations.SresetEffect
  refine ⟨fun s hb => exec_of_busy hb nofun, fun s hb => ⟨s.softReset, ?_⟩⟩
  exact ⟨(exec_sreset s).trans (State.issue_accepted hb rfl), s.softReset_statusWord, rfl, rfl, rfl, rfl, rfl, rfl, rfl, rfl, rfl,
    rfl, rfl, rfl, rfl, rfl, rfl, rfl, rfl, rfl, rfl, rfl, rfl, rfl, rfl, rfl, rfl, rfl, rfl, rfl, rfl, rfl⟩

end Sys2Proof.Machine
end
